-- ==== Sys2Proof/Word.lean ====
section
/-! DEFINITION. The words of the polling core (spec/00_scope.md R8, R9; spec/30_encoding.md R81) and the names of its four
monitored lines. Bit 0 is the least significant bit of every value; every value is unsigned. -/

namespace Sys2Proof

/-- Four bits: a coil pattern, one bit per coil line (R27). -/
abbrev Nibble := BitVec 4

/-- Eight bits: a Segment Pattern, a threshold, the response bus. -/
abbrev Byte := BitVec 8

/-- The 24-bit command word `CW[23:0]` (R81). -/
abbrev CommandWord := BitVec 24

/-- The four monitored lines (R8; every 2-bit value names one, R33). -/
inductive Line where
  | toggle
  | tactA
  | tactB
  | photo
  deriving DecidableEq, Repr

/-- How many bits of a four-bit pattern are 1 (R9 `popcount`). -/
def popcount (v : Nibble) : Nat :=
  (v.getLsbD 0).toNat + (v.getLsbD 1).toNat + (v.getLsbD 2).toNat + (v.getLsbD 3).toNat

end Sys2Proof
end

