-- ==== Sys2Proof/Config.lean ====
section
/-! DEFINITION. What a build of the polling core fixes (spec/00_scope.md R7), and the free values. The parameters that R7 gives a
default for are one record of plain data; those it gives none for, and the values the spec leaves unspecified, are constants
without a body. -/

namespace Sys2Proof

/-- The four waits (R7, R210): `T_DEB`, `T_CLK`, `T_STEP`, `T_BUS`. -/
inductive Delay where
  | deb
  | clk
  | step
  | bus
  deriving DecidableEq, Repr

/-- The build-time parameters that R7 gives a default for. `coilPat[p-1]` is `COIL_PAT[p]`, `segTable[k]` is `SEG_TABLE[k]`. -/
structure Params where
  coilPat : Vector Nibble 4
  segTable : Vector Byte 10
  dotBit : Fin 8
  ndc : Nat
  deriving DecidableEq, Repr

/-- The default column of R7 (DESIGN CHOICE of the spec: D14, D15, D18, D19). Log entry 1. -/
def Params.byDefault : Params where
  coilPat := #v[0b0001#4, 0b0010#4, 0b0100#4, 0b1000#4]
  segTable := #v[0x3F#8, 0x06#8, 0x5B#8, 0x4F#8, 0x66#8, 0x6D#8, 0x7D#8, 0x07#8, 0x7F#8, 0x6F#8]
  dotBit := 7
  ndc := 2

/-- The `n`-th byte the block returns from outside its digit table (R177, U1). Nothing is known of it. Log entry 4. -/
opaque Config.freeByte : Nat → Byte

/-- What `COIL_Q` holds at power-up (R237, U6). Nothing is known of it. Log entry 3. -/
opaque Config.powerUpCoilQ : Nibble

/-- What the DC-motor latch holds at power-up, as a number; the latch keeps its low NDC bits (R237, U6). Log entry 3. -/
opaque Config.powerUpDcmQ : Nat

/-- What `DIG_L_Q` holds at power-up (R237, U6). Log entry 3. -/
opaque Config.powerUpDigLQ : Byte

/-- What `DIG_R_Q` holds at power-up (R237, U6). Log entry 3. -/
opaque Config.powerUpDigRQ : Byte

/-- What the build adds to the least length that R7 allows for each wait. Log entry 2. -/
opaque Config.extraCycles : Delay → Nat

/-- The least number of `clk` cycles each wait takes (R251, a lower bound and no more). R7 asks for `T_DEB > 0` and `T_BUS > 0`.
Log entry 2. -/
def Config.minCycles (d : Delay) : Nat :=
  match d with
  | .deb => Config.extraCycles .deb + 1
  | .clk => Config.extraCycles .clk
  | .step => Config.extraCycles .step
  | .bus => Config.extraCycles .bus + 1

end Sys2Proof
end

