-- ==== Sys2Proof/Syntax.lean ====
section
/-! DEFINITION. The seven operations the block accepts (spec/30_encoding.md R80), one constructor per row of
spec/opcode_table.json. -/

namespace Sys2Proof

/-- The abstract operations of R80, with the operand types it gives them. -/
inductive Instr where
  /-- `LEVEL line` (R110). -/
  | level (line : Line)
  /-- `POLL line` (R114, R115). -/
  | poll (line : Line)
  /-- `POLLT thr` (R116); always the photo line. -/
  | pollt (thr : Byte)
  /-- `STEP rev` (R142); `true` is reverse. -/
  | step (rev : Bool)
  /-- `STOP` (R146). -/
  | stop
  /-- `REFRESH lp, rp, ld, rd` (R172). -/
  | refresh (lp rp : Byte) (ld rd : Bool)
  /-- `DIGIT d` (R176, R177). -/
  | digit (d : BitVec 4)
  deriving DecidableEq, Repr

end Sys2Proof
end

