-- ==== Sys2Proof/WellFormed.lean ====
section
/-! DEFINITION. The checks that stand outside the machine: the constraints a build's parameters meet (spec/00_scope.md R7), and the
part of an operation's domain that its operands alone decide (spec/30_encoding.md R80, R95). The operand types of `Instr` hold
exactly the values the encoding admits, so every `Instr` has a command word; an operation outside its domain has one too (R95),
and the machine says what it does. -/

namespace Sys2Proof

/-- R7, `COIL_PAT`: "four distinct values". -/
def Params.coilsDistinct (p : Params) : Bool := decide p.coilPat.toList.Nodup

/-- R7, `COIL_PAT`: "each with one bit set or each with two bits set". -/
def Params.coilsHot (p : Params) : Bool :=
  p.coilPat.toList.all (fun v => popcount v == 1) || p.coilPat.toList.all (fun v => popcount v == 2)

/-- R7, `SEG_TABLE`: "bit `DOT_BIT` clear in every entry". -/
def Params.segClearOfDot (p : Params) : Bool :=
  p.segTable.toList.all (fun v => !v.getLsbD p.dotBit.val)

/-- R7, `DOT_BIT`: "the one bit no `SEG_TABLE` entry uses", so some entry uses each other bit. -/
def Params.othersUsed (p : Params) : Bool :=
  (List.finRange 8).all (fun j => j == p.dotBit || p.segTable.toList.any (fun v => v.getLsbD j.val))

/-- The parameters meet every constraint of R7. -/
def Params.wellFormed (p : Params) : Bool := p.coilsDistinct && p.coilsHot && p.segClearOfDot && p.othersUsed

/-- The operands are in the domain column of R80: `thr` in 1..255, `d` in 0..9. The rest of POLLT's domain (`count < thr`) depends
on the state: `Machine.inDomain` in Safety.lean. -/
def Instr.inDomain (i : Instr) : Bool :=
  match i with
  | .level _ => true
  | .poll _ => true
  | .pollt thr => thr != 0
  | .step _ => true
  | .stop => true
  | .refresh _ _ _ _ => true
  | .digit d => decide (d.toNat ≤ 9)

end Sys2Proof
end

