-- ==== Sys2Proof/Decode.lean ====
section
/-! DEFINITION. The command encoding (spec/30_encoding.md R81 to R89, R93, R94; DESIGN CHOICE of the spec, D3, log entry 24): the
decoder from a 24-bit command word, the encoder, and the reading of a word as spec/opcode_table.json numbers its bits. -/

namespace Sys2Proof

/-- The rows of R88. -/
inductive Opcode where
  | level
  | poll
  | pollt
  | step
  | stop
  | refresh
  | digit
  deriving DecidableEq, Repr

/-- Why a command word is reserved (R94). -/
inductive Reject where
  /-- `op` is 0x0 or 0x8 to 0xF. -/
  | reservedOpcode
  /-- `op` is 0x1 to 0x7 and a must-be-zero bit of its format is 1. -/
  | nonzeroPadding
  deriving DecidableEq, Repr

/-- The rows in the order of R88. -/
def opcodeRows : List Opcode := [.level, .poll, .pollt, .step, .stop, .refresh, .digit]

/-- The `match` column of R88. -/
def opcodeMatch (o : Opcode) : CommandWord :=
  match o with
  | .level => 0x100000#24
  | .poll => 0x200000#24
  | .pollt => 0x300000#24
  | .step => 0x400000#24
  | .stop => 0x500000#24
  | .refresh => 0x600000#24
  | .digit => 0x700000#24

/-- The `mask` column of R88. -/
def opcodeMask (o : Opcode) : CommandWord :=
  match o with
  | .level => 0xFFFFFC#24
  | .poll => 0xFFFFFC#24
  | .pollt => 0xFFFF00#24
  | .step => 0xFFFFFE#24
  | .stop => 0xFFFFFF#24
  | .refresh => 0xFC0000#24
  | .digit => 0xFFFFF0#24

/-- "A word `w` selects the operation of a row when `w & mask == match`" (R88). -/
def rowSelects (w : CommandWord) (o : Opcode) : Bool := w &&& opcodeMask o == opcodeMatch o

/-- `op = CW[23:20]` (R81). -/
def opField (w : CommandWord) : BitVec 4 := w.extractLsb' 20 4

/-- The line identifiers of R8. -/
def lineOfBits (b : BitVec 2) : Line :=
  if b = 0#2 then .toggle else if b = 1#2 then .tactA else if b = 2#2 then .tactB else .photo

/-- The line identifiers of R8, the other way. -/
def lineBits (l : Line) : BitVec 2 :=
  match l with
  | .toggle => 0#2
  | .tactA => 1#2
  | .tactB => 2#2
  | .photo => 3#2

/-- The operands of a word of the given row: one contiguous slice each (R83 to R87, R89). -/
def operandsOf (o : Opcode) (w : CommandWord) : Instr :=
  match o with
  | .level => .level (lineOfBits (w.extractLsb' 0 2))
  | .poll => .poll (lineOfBits (w.extractLsb' 0 2))
  | .pollt => .pollt (w.extractLsb' 0 8)
  | .step => .step (w.getLsbD 0)
  | .stop => .stop
  | .refresh => .refresh (w.extractLsb' 8 8) (w.extractLsb' 0 8) (w.getLsbD 17) (w.getLsbD 16)
  | .digit => .digit (w.extractLsb' 0 4)

/-- The decoder of R93: the row that the word selects, or the reason why there is none (R94). -/
def decode (w : CommandWord) : Except Reject Instr :=
  match opcodeRows.find? (rowSelects w) with
  | some o => .ok (operandsOf o w)
  | none => .error (if opField w = 0#4 ∨ 8#4 ≤ opField w then .reservedOpcode else .nonzeroPadding)

/-- The command word of an operation, field by field from bit 23 down (R82 to R88). -/
def encode (i : Instr) : CommandWord :=
  match i with
  | .level line => 0x1#4 ++ 0#18 ++ lineBits line
  | .poll line => 0x2#4 ++ 0#18 ++ lineBits line
  | .pollt thr => 0x3#4 ++ 0#12 ++ thr
  | .step rev => 0x4#4 ++ 0#19 ++ BitVec.ofBool rev
  | .stop => 0x5#4 ++ 0#20
  | .refresh lp rp ld rd => 0x6#4 ++ 0#2 ++ BitVec.ofBool ld ++ BitVec.ofBool rd ++ lp ++ rp
  | .digit d => 0x7#4 ++ 0#16 ++ d

/-- The command word whose low `nbits` bits are those of `w`, the others 0. Every row of the table has 24 bits and the word is
transferred whole (R50, R81), so no byte order arises. -/
def tableWord (nbits w : Nat) : CommandWord := BitVec.ofNat 24 (w % 2 ^ nbits)

/-- What the decoder reads from a word numbered as spec/opcode_table.json numbers it. -/
def decodeTableWord (nbits w : Nat) : Option Instr :=
  match decode (tableWord nbits w) with
  | .ok i => some i
  | .error _ => none

end Sys2Proof
end

