-- ==== Sys2Proof/Machine/State.lean ====
section
/-! DEFINITION. What the machine holds: the block's registers, its ports, the downstream latches (spec/10_state.md R20, R30 to R32),
and what the caller and the environment will do next (spec/00_scope.md R14). There is no program counter, no memory, no control
register and no mode (R28, R29, R208). -/

namespace Sys2Proof.Machine

/-- One bit per monitored line (R8): `armed[line]`, `raw[line]`. -/
structure LineBits where
  toggle : Bool
  tactA : Bool
  tactB : Bool
  photo : Bool
  deriving DecidableEq, Repr

/-- One write of an output port, whole (R54, R55). -/
inductive Drive where
  | coil (v : Nibble)
  | dcm (v : Nat)
  | bclk (b : Bool)
  | seg (v : Byte)
  | dsl (b : Bool)
  | dsr (b : Bool)
  deriving DecidableEq, Repr

/-- The events of R13: `S(line)=b`, `W(port,v)`, `D(T)`. -/
inductive Event where
  | sample (line : Line) (level : Bool)
  | write (d : Drive)
  | wait (d : Delay)
  deriving DecidableEq, Repr

/-- What the caller and the environment may do between two operations (R14, R15). Log entries 5, 9, 10. -/
inductive Input where
  /-- The caller puts a word on `cmd` and raises `cmd_valid` (R15, R32). -/
  | command (w : CommandWord)
  /-- The environment sets one raw line (R14, R30). -/
  | rawLevel (line : Line) (level : Bool)
  /-- The reset line is driven to a level (R230). -/
  | rst (level : Bool)
  /-- The reset line will rise inside the next operation, after that many of its events (R204 (c), R230). -/
  | rstDuring (events : Nat)
  /-- The external DC-motor driver makes its one move, with this pattern (R66). -/
  | dcMotor (pattern : Nat)
  deriving DecidableEq, Repr

/-- The machine. -/
structure State where
  /-- The build's parameters (R7); no step changes them. Log entry 1. -/
  params : Params
  /-- `armed[line]` (R21). -/
  armed : LineBits
  /-- `passed_state` (R23). -/
  passedState : Bool
  /-- `count`, the Rotation Counter (R24). -/
  count : Byte
  /-- `phase_ctr` (R25). -/
  phaseCtr : BitVec 2
  /-- `COIL[3:0]` (R27). -/
  coil : Nibble
  /-- `DCM[NDC-1:0]` as the unsigned number it spells (R9, R27). Log entry 16. -/
  dcm : Nat
  /-- `BCLK` (R27). -/
  bclk : Bool
  /-- `SEG[7:0]` (R27). -/
  seg : Byte
  /-- `DSL` (R27). -/
  dsl : Bool
  /-- `DSR` (R27). -/
  dsr : Bool
  /-- `COIL_Q` (R35). -/
  coilQ : Nibble
  /-- `DCM_Q` (R35), as `dcm`. -/
  dcmQ : Nat
  /-- `DIG_L_Q` (R36). -/
  digLQ : Byte
  /-- `DIG_R_Q` (R36). -/
  digRQ : Byte
  /-- `raw[3:0]`: the level each sensor line has when it is next sampled (R30, R52). Log entries 6, 7. -/
  raw : LineBits
  /-- `rst` (R30). -/
  rst : Bool
  /-- `cmd[23:0]` (R32). -/
  cmd : CommandWord
  /-- `cmd_valid` (R32). -/
  cmdValid : Bool
  /-- `cmd_ready` (R32). -/
  cmdReady : Bool
  /-- `rsp[7:0]` (R32, R91). -/
  rsp : Byte
  /-- `rsp_valid` (R32). -/
  rspValid : Bool
  /-- How many free bytes have been drawn (R177); the model's own. Log entry 4. -/
  draws : Nat
  /-- When set, `rst` rises in the next operation after so many of its events (R204 (c)); the model's own. Log entry 9. -/
  rstDuring : Option Nat
  /-- The moves of the caller and the environment still to come, oldest first; the model's own. Log entry 5. -/
  inputs : List Input
  /-- Every event so far, oldest first (R13); the model's own, nothing reads it but `abandon`. Log entry 8. -/
  trace : List Event
  deriving DecidableEq, Repr

/-- The block raises no fault of any kind (R200): there is none. Log entry 23. -/
inductive Fault where
  deriving DecidableEq, Repr

/-- Why a step has no next state. Each is a case the spec tells a model to refuse, but for the last, which the spec leaves open,
and for `notModelled`, which no arm uses. -/
inductive Refusal where
  /-- An instruction without a meaning; raised by an arm of `exec` only, and by none. Safe. -/
  | notModelled (mnemonic : String)
  /-- A reserved command word (R94, U2); raised by `runCommand`. Safe. Log entry 11. -/
  | reservedCommand (why : Reject)
  /-- `POLLT 0` (R120, U3); raised by `pollThreshold`. Safe. Log entry 12. -/
  | thresholdZero
  /-- POLLT or POLL PHOTO entered with `count >= thr` (R120, U4); raised by `pollThreshold`. Safe. Log entry 12. -/
  | countNotBelowThreshold
  /-- The external DC-motor driver moves while `rst` is 1; raised by `takeInput`. Safe. Log entry 10. -/
  | externalDriverInReset
  deriving DecidableEq, Repr

/-- The machine right after reset at power-up: R231 to R236 for the block, `cmd_ready = 1`, `rsp_valid = 0` (R230); the latches
hold what they hold (R237, log entry 3); parameters, ports and the model's own fields as log entries 1, 4 to 6, 8, 9, 13. -/
def State.reset : State where
  params := Params.byDefault
  armed := ⟨true, true, true, true⟩
  passedState := false
  count := 0
  phaseCtr := 0
  coil := 0
  dcm := 0
  bclk := false
  seg := 0
  dsl := false
  dsr := false
  coilQ := Config.powerUpCoilQ
  dcmQ := Config.powerUpDcmQ % 2 ^ Params.byDefault.ndc
  digLQ := Config.powerUpDigLQ
  digRQ := Config.powerUpDigRQ
  raw := ⟨false, false, false, false⟩
  rst := false
  cmd := 0
  cmdValid := false
  cmdReady := true
  rsp := 0
  rspValid := false
  draws := 0
  rstDuring := none
  inputs := []
  trace := []

end Sys2Proof.Machine
end

