-- ==== Sys2Proof/Machine/Operands.lean ====
section
/-! DEFINITION. The operand forms: reading and writing one line's bit, the polarity table, the phase numbers and patterns of a
step, the bus value of a digit, the digit table, and the widening of a result to the response bus. -/

namespace Sys2Proof.Machine

/-- `v[line]`. -/
def LineBits.get (v : LineBits) (l : Line) : Bool :=
  match l with
  | .toggle => v.toggle
  | .tactA => v.tactA
  | .tactB => v.tactB
  | .photo => v.photo

/-- `v[line] <- b`, the other lines as they were (R21). -/
def LineBits.set (v : LineBits) (l : Line) (b : Bool) : LineBits :=
  match l with
  | .toggle => { v with toggle := b }
  | .tactA => { v with tactA := b }
  | .tactB => { v with tactB := b }
  | .photo => { v with photo := b }

/-- `POL[line]`, the raw level that means active (R8; 90_conflicts C1). -/
def polarity (l : Line) : Bool :=
  match l with
  | .toggle => true
  | .tactA => false
  | .tactB => false
  | .photo => false

/-- The phase a STEP emits: `p = phase_ctr + 1`, in 1..4 (R143). -/
def nextPhase (c : BitVec 2) : Nat := c.toNat + 1

/-- The value `phase_ctr` holds after phase `p` was emitted: `p mod 4` (R143). -/
def storedPhase (p : Nat) : BitVec 2 := BitVec.ofNat 2 (p % 4)

/-- `r(p) = ((5 - p) mod 4) + 1`: phases 2 and 4 exchanged (R144). -/
def mirrorPhase (p : Nat) : Nat := (5 - p) % 4 + 1

/-- `COIL_PAT[p]` for `p` in 1..4 (R7). -/
def coilPattern (pr : Params) (p : Nat) : Nibble := pr.coilPat[(p - 1) % 4]'(Nat.mod_lt _ (by decide))

/-- The pattern of phase `p` in the requested direction (R142, R144). -/
def stepPattern (pr : Params) (rev : Bool) (p : Nat) : Nibble :=
  if rev then coilPattern pr (mirrorPhase p) else coilPattern pr p

/-- `DOT_MASK = 1 << DOT_BIT` (R171). -/
def dotMask (pr : Params) : Byte := 1#8 <<< pr.dotBit.val

/-- `BusVal(pat, dot) = pat | (DOT_MASK if dot = 1 else 0x00)` (R171, R174). -/
def busVal (pr : Params) (pat : Byte) (dot : Bool) : Byte := pat ||| (if dot then dotMask pr else 0#8)

/-- `SEG_TABLE[d]` for `d` in 0..9, nothing above (R34, R176). -/
def digitEntry (pr : Params) (d : BitVec 4) : Option Byte := pr.segTable[d.toNat]?

/-- `zext_8` of a Boolean: `rsp[0]` is the result, `rsp[7:1] = 0` (R91). -/
def boolByte (b : Bool) : Byte := if b then 1#8 else 0#8

end Sys2Proof.Machine
end

