-- ==== Sys2Proof/Machine/Flags.lean ====
section
/-! DEFINITION. The flag computations: the armed-state machine (spec/40_edge_detector.md R112) and the Rotation Counter (R116,
R118). -/

namespace Sys2Proof.Machine

/-- `armed[line]` after an `Edge` step that sampled activity `a` with `armed[line] = m` on entry: the three cases of R112 in its
order (edge, idle or release, held). -/
def armedAfter (a m : Bool) : Bool :=
  if a && m then false else if !a then true else m

/-- The result `e` of that step: 1 in the edge case only (R112). -/
def edgeResult (a m : Bool) : Bool := a && m

/-- The Rotation Counter on a poll whose `Edge` step gave `e`: the Boolean returned and the new `count` (R116). The sum is taken on
unsigned integers and "reaches" is equality (R118). -/
def countStep (e : Bool) (count thr : Byte) : Bool × Byte :=
  if e then
    if count.toNat + 1 = thr.toNat then (true, 0#8) else (false, BitVec.ofNat 8 (count.toNat + 1))
  else (false, count)

end Sys2Proof.Machine
end

