-- ==== Sys2Proof/Machine/Ops.lean ====
section
/-! DEFINITION. The named operations over the state: the primitives of spec/20_memory.md (Sample, Active, Drive, Wait), Return, the
clock-reset sequence, the Edge step and the poll with a threshold; then what happens between operations: the command handshake,
reset, the external DC-motor driver, an operation that reset cuts short. There is no exception to take and none to return from
(spec/60_exceptions.md R200, R206). -/

namespace Sys2Proof.Machine

/-- Append one event to the trace (R13). -/
def State.log (e : Event) (s : State) : State := { s with trace := s.trace ++ [e] }

/-- `Wait(T)`: an event of the trace and no other effect (R56). -/
def State.wait (d : Delay) (s : State) : State := s.log (.wait d)

/-- `Sample(line)`: the level on `raw[line]` at this event (R52). -/
def State.sample (l : Line) (s : State) : Bool × State := (s.raw.get l, s.log (.sample l (s.raw.get l)))

/-- `Active(line) = (Sample(line) == POL[line])`, one sample (R53). -/
def State.active (l : Line) (s : State) : Bool × State :=
  ((s.sample l).1 == polarity l, (s.sample l).2)

/-- What a write does to the ports and the latches. A rising edge of BCLK commits COIL and DCM at once (R35), one of DSL or DSR
commits SEG into that digit's latch (R36), and nothing else commits (R54, R55). -/
def State.setPort (d : Drive) (s : State) : State :=
  match d with
  | .coil v => { s with coil := v }
  | .dcm v => { s with dcm := v % 2 ^ s.params.ndc }
  | .bclk b => { s with
      bclk := b
      coilQ := if b && !s.bclk then s.coil else s.coilQ
      dcmQ := if b && !s.bclk then s.dcm else s.dcmQ }
  | .seg v => { s with seg := v }
  | .dsl b => { s with
      dsl := b
      digLQ := if b && !s.dsl then s.seg else s.digLQ }
  | .dsr b => { s with
      dsr := b
      digRQ := if b && !s.dsr then s.seg else s.digRQ }

/-- The write event as the trace records it: a value on DCM has NDC bits, and with no DC-motor line there is no event (R142). -/
def State.writeEvents (d : Drive) (s : State) : List Event :=
  match d with
  | .dcm v => if s.params.ndc = 0 then [] else [.write (.dcm (v % 2 ^ s.params.ndc))]
  | .coil v => [.write (.coil v)]
  | .bclk b => [.write (.bclk b)]
  | .seg v => [.write (.seg v)]
  | .dsl b => [.write (.dsl b)]
  | .dsr b => [.write (.dsr b)]

/-- `Drive(port, v)` (R54, R55): the port takes the value in one event. -/
def State.drive (d : Drive) (s : State) : State :=
  { s.setPort d with trace := s.trace ++ s.writeEvents d }

/-- `ClockReset()`: wait, raise, drop (R140). -/
def State.clockReset (s : State) : State :=
  ((s.wait .clk).drive (.bclk true)).drive (.bclk false)

/-- `Return(v)`: the response is presented and the block is ready for the next command (R32, R91). -/
def State.ret (v : Byte) (s : State) : State := { s with rsp := v, rspValid := true, cmdReady := true }

/-- `Edge(line)` (R112, R113): wait, sample once, write `armed[line]` and on the photo line `passed_state`. -/
def State.edge (l : Line) (s : State) : Bool × State :=
  let r := (s.wait .deb).active l
  let m := s.armed.get l
  let t := { r.2 with
    armed := r.2.armed.set l (armedAfter r.1 m)
    passedState := if l = .photo then r.1 else r.2.passedState }
  (edgeResult r.1 m, t)

/-- The poll of the photo line with a threshold (R116), refused outside its domain (R120); POLLT and POLL PHOTO share it (R115). -/
def pollThreshold (thr : Byte) (s : State) : Host.Outcome State Fault Refusal :=
  if thr = 0#8 then .refused .thresholdZero
  else if thr.toNat ≤ s.count.toNat then .refused .countNotBelowThreshold
  else
    let r := s.edge .photo
    let c := countStep r.1 s.count thr
    .next ({ r.2 with count := c.2 }.ret (boolByte c.1))

/-- A byte about which nothing is known, and the state that has drawn it (R177). -/
def State.drawByte (s : State) : Byte × State := (Config.freeByte s.draws, { s with draws := s.draws + 1 })

/-! Between operations. -/

/-- A command is transferred when `cmd_valid` and `cmd_ready` are both 1 (R32) and reset does not hold the block (R230). -/
def State.takesCommand (s : State) : Bool := s.cmdValid && s.cmdReady && !s.rst

/-- The transfer of the command word: the word is taken, `cmd_ready` falls (R32), an earlier response is gone. Log entry 13. -/
def State.accept (s : State) : State := { s with cmdValid := false, cmdReady := false, rspValid := false }

/-- The caller puts a word on the command port (R15, R32). -/
def State.presentCommand (w : CommandWord) (s : State) : State := { s with cmd := w, cmdValid := true }

/-- The environment sets one raw line (R14, R30). -/
def State.presentLevel (l : Line) (b : Bool) (s : State) : State := { s with raw := s.raw.set l b }

/-- Every state element of the block at its reset value (R231 to R236), no response (R230); the latches keep what they held
(R237). -/
def State.blockReset (s : State) : State :=
  { s with
    armed := ⟨true, true, true, true⟩
    passedState := false
    count := 0
    phaseCtr := 0
    coil := 0
    dcm := 0
    bclk := false
    seg := 0
    dsl := false
    dsr := false
    rspValid := false }

/-- `rst = 1`: the block is held at its reset values and is not ready (R230). -/
def State.rstRise (s : State) : State := { s.blockReset with rst := true, cmdReady := false }

/-- `rst` falls: the reset values still, and the block is ready (R230). -/
def State.rstFall (s : State) : State := { s.blockReset with rst := false, cmdReady := true }

/-- The reset line is driven to a level; driving it low when it is low changes nothing. -/
def State.driveRst (b : Bool) (s : State) : State :=
  if b then s.rstRise else if s.rst then s.rstFall else s

/-- The external DC-motor driver's whole move (R66): DCM to its pattern, COIL to zero, a clock-reset sequence. -/
def State.externalDrive (pattern : Nat) (s : State) : State :=
  ((s.drive (.dcm pattern)).drive (.coil 0#4)).clockReset

/-- One move of the caller or the environment. Log entries 5, 9, 10. -/
def takeInput (i : Input) (s : State) : Host.Outcome State Fault Refusal :=
  match i with
  | .command w => .next (s.presentCommand w)
  | .rawLevel l b => .next (s.presentLevel l b)
  | .rst b => .next (s.driveRst b)
  | .rstDuring k => .next { s with rstDuring := some k }
  | .dcMotor p => if s.rst then .refused .externalDriverInReset else .next (s.externalDrive p)

/-- The block waits for a command: the oldest move still to come is made, or nothing happens (R238). A response that was presented
has been taken (R32, log entry 13). -/
def waitForCommand (s : State) : Host.Outcome State Fault Refusal :=
  match s.inputs with
  | [] => .next { s with rspValid := false }
  | i :: rest => takeInput i { s with inputs := rest, rspValid := false }

/-- One event of an operation, done again: a write drives its port, the others only stand in the trace. -/
def State.replay (s : State) (e : Event) : State :=
  match e with
  | .write d => s.drive d
  | .sample l b => s.log (.sample l b)
  | .wait d => s.log (.wait d)

/-- `rst` rises after `k` events of an operation that began in `s` and would have ended in `t`: the events before it happened, so
what they committed stays in the latches; the others do not occur, there is no response, and reset holds the block (R204 (c),
R230, R237). Log entry 9. -/
def abandon (k : Nat) (s t : State) : State :=
  { (((t.trace.drop s.trace.length).take k).foldl State.replay s).rstRise with rstDuring := none }

/-- The end of an operation that began in `s`: as it is, or cut short where the reset line was planned to rise in it. -/
def finish (s : State) (o : Host.Outcome State Fault Refusal) : Host.Outcome State Fault Refusal :=
  match o with
  | .next t =>
    match s.rstDuring with
    | none => .next t
    | some k => .next (abandon k s t)
  | .fault f => .fault f
  | .refused r => .refused r

end Sys2Proof.Machine
end

