-- ==== Sys2Proof/Machine/DisplayRefresher.lean ====
section
/-! DEFINITION. The Display Refresher operations REFRESH and DIGIT (spec/42_display_refresher.md). -/

namespace Sys2Proof.Machine

/-- The left digit's half of a refresh: the bus, then the strobe (R172). -/
def State.strobeLeft (v : Byte) (s : State) : State :=
  ((s.drive (.seg v)).drive (.dsl true)).drive (.dsl false)

/-- The right digit's half of a refresh (R172). -/
def State.strobeRight (v : Byte) (s : State) : State :=
  ((s.drive (.seg v)).drive (.dsr true)).drive (.dsr false)

/-- `REFRESH lp, rp, ld, rd` (R172): left digit, one bus-settle wait, right digit (R175). -/
def execRefresh (lp rp : Byte) (ld rd : Bool) (s : State) : Host.Outcome State Fault Refusal :=
  .next ((((s.strobeLeft (busVal s.params lp ld)).wait .bus).strobeRight (busVal s.params rp rd)).ret 0#8)

/-- `DIGIT d`: the table's entry (R176), a free byte outside it (R177). -/
def execDigit (d : BitVec 4) (s : State) : Host.Outcome State Fault Refusal :=
  match digitEntry s.params d with
  | some v => .next (s.ret v)
  | none => .next (s.drawByte.2.ret s.drawByte.1)

end Sys2Proof.Machine
end

