-- ==== Sys2Proof/Machine/EdgeDetector.lean ====
section
/-! DEFINITION. The Edge Detector operations LEVEL, POLL, POLLT (spec/40_edge_detector.md). -/

namespace Sys2Proof.Machine

/-- `LEVEL line` (R110): one sample without a wait, its activity returned, no state written. -/
def execLevel (l : Line) (s : State) : Host.Outcome State Fault Refusal :=
  .next ((s.active l).2.ret (boolByte (s.active l).1))

/-- `POLL line` (R114); on the photo line it is `POLLT 1`, its domain condition included (R115). -/
def execPoll (l : Line) (s : State) : Host.Outcome State Fault Refusal :=
  match l with
  | .photo => pollThreshold 1#8 s
  | .toggle => .next ((s.edge .toggle).2.ret (boolByte (s.edge .toggle).1))
  | .tactA => .next ((s.edge .tactA).2.ret (boolByte (s.edge .tactA).1))
  | .tactB => .next ((s.edge .tactB).2.ret (boolByte (s.edge .tactB).1))

/-- `POLLT thr` (R116, R120). -/
def execPollt (thr : Byte) (s : State) : Host.Outcome State Fault Refusal := pollThreshold thr s

end Sys2Proof.Machine
end

