-- ==== Sys2Proof/Machine/PhaseSequencer.lean ====
section
/-! DEFINITION. The Phase Sequencer operations STEP and STOP (spec/41_phase_sequencer.md). -/

namespace Sys2Proof.Machine

/-- `STEP rev` (R142): advance the counter, drive the pattern of the new phase, zero the DC-motor lines (R151), clock, settle. -/
def execStep (rev : Bool) (s : State) : Host.Outcome State Fault Refusal :=
  let p := nextPhase s.phaseCtr
  let t := ({ s with phaseCtr := storedPhase p }.drive (.coil (stepPattern s.params rev p))).drive (.dcm 0)
  .next ((t.clockReset.wait .step).ret 0#8)

/-- `STOP` (R146): zero the coil lines and clock; the phase, the DC-motor lines and the settle wait are not touched (R147, D24). -/
def execStop (s : State) : Host.Outcome State Fault Refusal :=
  .next ((s.drive (.coil 0#4)).clockReset.ret 0#8)

end Sys2Proof.Machine
end

