-- ==== Sys2Proof/Machine/Dispatch.lean ====
section
/-! DEFINITION. One arm per operation of spec/opcode_table.json. -/

namespace Sys2Proof.Machine

def exec (i : Instr) (s : State) : Host.Outcome State Fault Refusal :=
  match i with
  | .level line => Sys2Proof.Machine.execLevel line s
  | .poll line => Sys2Proof.Machine.execPoll line s
  | .pollt thr => Sys2Proof.Machine.execPollt thr s
  | .step rev => Sys2Proof.Machine.execStep rev s
  | .stop => Sys2Proof.Machine.execStop s
  | .refresh lp rp ld rd => Sys2Proof.Machine.execRefresh lp rp ld rd s
  | .digit d => Sys2Proof.Machine.execDigit d s

end Sys2Proof.Machine
end

