-- ==== Sys2Proof/Machine/Command.lean ====
section
/-! DEFINITION. Taking a command from the command port and running it (spec/10_state.md R32; spec/30_encoding.md R93, R94). -/

namespace Sys2Proof.Machine

/-- The word on `cmd` is transferred, decoded and its operation performed to its end; a reserved word is refused (R94). -/
def runCommand (s : State) : Host.Outcome State Fault Refusal :=
  match decode s.cmd with
  | .ok i => finish s.accept (exec i s.accept)
  | .error why => .refused (.reservedCommand why)

/-- The state in which the very next step runs the word `w`: it stands on `cmd` with `cmd_valid = 1`, the block is ready, and no
reset holds it or is planned to cut the operation short. Log entry 5. -/
def State.withCommand (w : CommandWord) (s : State) : State :=
  { s.presentCommand w with cmdReady := true, rst := false, rstDuring := none }

end Sys2Proof.Machine
end

