-- ==== Sys2Proof/Machine/Step.lean ====
section
/-! DEFINITION. One step of the machine: a whole operation when a command can be transferred, else one move of the caller or the
environment (spec/00_scope.md R14). -/

namespace Sys2Proof.Machine

/-- One step. -/
def step (s : State) : Host.Outcome State Fault Refusal :=
  if s.takesCommand then runCommand s else waitForCommand s

/-- `s` with the command word whose low `nbits` bits are those of `w` on the command port, so that the next step runs it. -/
def State.withFetchWord (s : State) (nbits w : Nat) : State := s.withCommand (tableWord nbits w)

end Sys2Proof.Machine
end

