-- ==== Sys2Proof/Machine/Caller.lean ====
section
/-! DEFINITION. The caller's side as far as the spec describes it: the assembler's operands and defaults (spec/30_encoding.md R90,
R96), the pseudo-operations (R97, R98), and operations issued one after another (spec/00_scope.md R15). No step of the machine
uses this file. -/

namespace Sys2Proof.Machine

/-- A pattern operand as the assembler writes it: a byte, or `num[k]` with `k` in 0..9 (R96). -/
inductive AsmPattern where
  | byte (b : Byte)
  | num (k : Fin 10)
  deriving DecidableEq, Repr

/-- One line of assembly (R96); `none` is an operand left out (R90). Log entry 22. -/
inductive Asm where
  | level (line : Line)
  | poll (line : Line)
  | pollt (thr : Option Byte)
  | step (rev : Option Bool)
  | stop
  | refresh (lp rp : AsmPattern) (ld rd : Option Bool)
  | digit (d : BitVec 4)
  deriving DecidableEq, Repr

/-- The byte an assembler pattern stands for (R96). -/
def patternByte (pr : Params) (a : AsmPattern) : Byte :=
  match a with
  | .byte b => b
  | .num k => pr.segTable[k]

/-- The operation an assembly line stands for, the defaults of R90 supplied. -/
def assemble (pr : Params) (a : Asm) : Instr :=
  match a with
  | .level l => .level l
  | .poll l => .poll l
  | .pollt thr => .pollt (thr.getD 1#8)
  | .step rev => .step (rev.getD false)
  | .stop => .stop
  | .refresh lp rp ld rd => .refresh (patternByte pr lp) (patternByte pr rp) (ld.getD false) (rd.getD false)
  | .digit d => .digit d

/-- What the caller does next, after an operation that completed. -/
def andThen (o : Host.Outcome State Fault Refusal) (k : State → Host.Outcome State Fault Refusal) :
    Host.Outcome State Fault Refusal :=
  match o with
  | .next t => k t
  | .fault f => .fault f
  | .refused r => .refused r

/-- Operations performed one after another (R15, R58). -/
def performAll (is : List Instr) (s : State) : Host.Outcome State Fault Refusal :=
  match is with
  | [] => .next s
  | i :: rest => andThen (exec i s) (performAll rest)

/-- `SHOWDEC v` (R98, R178): the tens digit's pattern on the left, the units digit's on the right, both points off. Its domain is
0..99; above 159 the tens digit has no DIGIT word. Log entry 21. -/
def showDec (v : Fin 160) (s : State) : Host.Outcome State Fault Refusal :=
  andThen (exec (.digit (BitVec.ofNat 4 (v.val / 10))) s) fun t =>
    andThen (exec (.digit (BitVec.ofNat 4 (v.val % 10))) t) fun u =>
      exec (.refresh t.rsp u.rsp false false) u

end Sys2Proof.Machine
end

