-- ==== Sys2Proof/Safety.lean ====
section
/-! DEFINITION. The terms claims use: an operation's domain, the invariant of the states between operations (spec/10_state.md R37),
the units' views of the state, ghosts that remember what R37 (b) and (e) speak of, runs of one operation over a sequence of
samples, and the reference functions of the laws of spec/40_edge_detector.md and spec/41_phase_sequencer.md. -/

namespace Sys2Proof.Machine

/-- The operation is inside its domain in this state (R80, R120): POLLT needs `count < thr`, POLL PHOTO needs `count = 0` (R115);
every other operation always has an effect (R177 for DIGIT). -/
def inDomain (i : Instr) (s : State) : Bool :=
  match i with
  | .pollt thr => decide (s.count.toNat < thr.toNat)
  | .poll .photo => decide (s.count.toNat < 1)
  | .poll .toggle => true
  | .poll .tactA => true
  | .poll .tactB => true
  | .level _ => true
  | .step _ => true
  | .stop => true
  | .refresh _ _ _ _ => true
  | .digit _ => true

/-- The block's registers and ports hold their reset values (R231 to R236). -/
structure AtReset (s : State) : Prop where
  armed : s.armed = ⟨true, true, true, true⟩
  passedState : s.passedState = false
  count : s.count = 0
  phaseCtr : s.phaseCtr = 0
  coil : s.coil = 0
  dcm : s.dcm = 0
  seg : s.seg = 0
  bclk : s.bclk = false
  dsl : s.dsl = false
  dsr : s.dsr = false

/-- The block is held in reset: its reset values, not ready, no response (R230). -/
structure HeldInReset (s : State) : Prop where
  values : AtReset s
  line : s.rst = true
  notReady : s.cmdReady = false
  noResponse : s.rspValid = false

/-- The invariant of every state between two operations: R37 (a) and (d), the parameters' constraints (R7), the width of the
DC-motor lines (R20), and the handshake (R15, R230). -/
structure Inv (s : State) : Prop where
  params : s.params.wellFormed = true
  dcmWidth : s.dcm < 2 ^ s.params.ndc
  dcmQWidth : s.dcmQ < 2 ^ s.params.ndc
  beam : s.passedState = !s.armed.photo
  bclkLow : s.bclk = false
  dslLow : s.dsl = false
  dsrLow : s.dsr = false
  ready : s.cmdReady = !s.rst
  held : s.rst = true → AtReset s

/-! What the rules give, written out for the statements. -/

/-- The activity a sample of the line would find (R53, R8), line by line: the level of the toggle line, the negated level of the
other three. -/
def activityOf (s : State) (l : Line) : Bool :=
  match l with
  | .toggle => s.raw.toggle
  | .tactA => !s.raw.tactA
  | .tactB => !s.raw.tactB
  | .photo => !s.raw.photo

/-- The pattern a STEP emits from each value of `phase_ctr`, in each direction (R142, R144), entry by entry. -/
def patternFrom (pr : Params) (rev : Bool) (c : BitVec 2) : Nibble :=
  match rev, c.toNat with
  | false, 0 => pr.coilPat[0]
  | false, 1 => pr.coilPat[1]
  | false, 2 => pr.coilPat[2]
  | false, _ => pr.coilPat[3]
  | true, 0 => pr.coilPat[0]
  | true, 1 => pr.coilPat[3]
  | true, 2 => pr.coilPat[2]
  | true, _ => pr.coilPat[1]

/-! The units' views (R20, R38). -/

/-- The Edge Detector's registers are the same. -/
def SameEdgeDetector (s t : State) : Prop :=
  t.armed = s.armed ∧ t.passedState = s.passedState ∧ t.count = s.count

/-- The Phase Sequencer's register, its ports and the latches behind them are the same. -/
def SamePhaseSequencer (s t : State) : Prop :=
  t.phaseCtr = s.phaseCtr ∧ t.coil = s.coil ∧ t.dcm = s.dcm ∧ t.bclk = s.bclk ∧ t.coilQ = s.coilQ ∧ t.dcmQ = s.dcmQ

/-- The Display Refresher's ports and the latches behind them are the same. -/
def SameDisplay (s t : State) : Prop :=
  t.seg = s.seg ∧ t.dsl = s.dsl ∧ t.dsr = s.dsr ∧ t.digLQ = s.digLQ ∧ t.digRQ = s.digRQ

/-- What no operation writes: the parameters, the input ports, and what the caller and the environment will do. -/
def SameSurroundings (s t : State) : Prop :=
  t.params = s.params ∧ t.raw = s.raw ∧ t.rst = s.rst ∧ t.cmd = s.cmd ∧ t.cmdValid = s.cmdValid ∧
    t.rstDuring = s.rstDuring ∧ t.inputs = s.inputs

/-! Ghosts for R37 (b) and (e). -/

/-- Which operation's commit `COIL_Q` and `DCM_Q` still hold. -/
inductive CoilCommit where
  | byStep
  | byStop
  deriving DecidableEq, Repr

/-- The machine together with what R37 (b) and (e) remember: the threshold of the most recent POLLT (POLL PHOTO is POLLT 1) since
reset, and the operation that made the most recent rising edge of BCLK, when it was a STEP or a STOP. -/
structure Watched where
  st : State
  threshold : Option Byte
  commit : Option CoilCommit
  deriving DecidableEq, Repr

/-- The operation that the next step begins, if any, whether or not reset cuts it short. -/
def begins (s : State) : Option Instr :=
  if s.takesCommand then
    match decode s.cmd with
    | .ok i => some i
    | .error _ => none
  else none

/-- The operation that the next step completes, if any. -/
def completes (s : State) : Option Instr := if s.rstDuring.isNone then begins s else none

/-- The remembered threshold after a step to a state with the given reset level. -/
def thresholdAfter (w : Watched) (rst : Bool) : Option Byte :=
  if rst then none
  else
    match completes w.st with
    | some (.pollt thr) => some thr
    | some (.poll .photo) => some 1#8
    | _ => w.threshold

/-- The remembered commit after a step to `t`: kept unless an event of the step raises BCLK (which is low between operations, R37
(d)); a step that raises it is remembered when it is a STEP or a STOP, cut short afterwards or not. -/
def commitAfter (w : Watched) (t : State) : Option CoilCommit :=
  if Event.write (.bclk true) ∈ t.trace.drop w.st.trace.length then
    match begins w.st with
    | some (.step _) => some .byStep
    | some .stop => some .byStop
    | _ => none
  else w.commit

/-- One step of the watched machine. -/
def Watched.step (w : Watched) : Option Watched :=
  match Sys2Proof.Machine.step w.st with
  | .next t => some { st := t, threshold := thresholdAfter w t.rst, commit := commitAfter w t }
  | .fault _ => none
  | .refused _ => none

/-- R37 whole, on the watched machine. -/
structure Watched.Inv (w : Watched) : Prop where
  base : Sys2Proof.Machine.Inv w.st
  countBelow : ∀ thr, w.threshold = some thr → w.st.count.toNat < thr.toNat
  countZero : w.threshold = none → w.st.count = 0
  afterStep : w.commit = some .byStep → w.st.coilQ ∈ w.st.params.coilPat ∧ w.st.dcmQ = 0
  afterStop : w.commit = some .byStop → w.st.coilQ = 0

/-! Runs of one operation. -/

/-- The raw level at which the line has the given activity (R53). -/
def levelOf (l : Line) (a : Bool) : Bool := if a then polarity l else !polarity l

/-- Perform `i` once per activity, the line `l` being at the level of that activity when it is sampled; the Boolean results (R91:
`rsp[0]`) in order and the last state. -/
def pollRun (i : Instr) (l : Line) (as : List Bool) (s : State) : Option (List Bool × State) :=
  match as with
  | [] => some ([], s)
  | a :: rest =>
    match exec i (s.presentLevel l (levelOf l a)) with
    | .next t => (pollRun i l rest t).map fun r => (t.rsp.getLsbD 0 :: r.1, r.2)
    | .fault _ => none
    | .refused _ => none

/-- The one-shot law's answer (R121): an edge at the first sample of each maximal run of active samples; `p` is whether the sample
before the first one was active (`armed = 0`). -/
def oneShot (p : Bool) (as : List Bool) : List Bool :=
  match as with
  | [] => []
  | a :: rest => (a && !p) :: oneShot a rest

/-- The counting law's answer (R119): of the raw edges `es`, those whose number, counted from `k + 1`, is a multiple of `n`. -/
def everyNth (n k : Nat) (es : List Bool) : List Bool :=
  match es with
  | [] => []
  | e :: rest => (e && (k + 1) % n == 0) :: everyNth n (if e then k + 1 else k) rest

/-- One STEP per direction, `COIL_Q` after each. -/
def stepRun (revs : List Bool) (s : State) : Option (List Nibble × State) :=
  match revs with
  | [] => some ([], s)
  | rev :: rest =>
    match exec (.step rev) s with
    | .next t => (stepRun rest t).map fun r => (t.coilQ :: r.1, r.2)
    | .fault _ => none
    | .refused _ => none

/-- The patterns the cycle law gives (R145, R149): the `k`-th STEP from counter `c` emits phase `((c + k - 1) mod 4) + 1`. -/
def cyclePatterns (pr : Params) (c : Nat) (revs : List Bool) : List Nibble :=
  match revs with
  | [] => []
  | rev :: rest => stepPattern pr rev (c % 4 + 1) :: cyclePatterns pr (c + 1) rest

/-! Waits. -/

/-- The waits among some events, in order (R210). -/
def waitsIn (es : List Event) : List Delay :=
  es.filterMap fun e =>
    match e with
    | .wait d => some d
    | .sample _ _ => none
    | .write _ => none

/-- The least time these events take, in `clk` cycles: the sum of the waits' lower bounds (R212, R251). -/
def leastDuration (es : List Event) : Nat := ((waitsIn es).map Config.minCycles).sum

end Sys2Proof.Machine
end

