-- ==== Sys2Proof/Certificates/Slice0/Obligations.lean ====
section
/-! DEFINITION. The statements for the provers. The trace and the plan of moves are the model's own form of spec/00_scope.md R13 and
R14 (log entries 5, 8); the handshake fields `rspValid` and `cmdReady` are spec/10_state.md R32 and spec/30_encoding.md R91. -/

open Sys2Proof Sys2Proof.Machine

/-! ## Encoding -/

/-- The decoder reads back every operation from its command word, with every operand at every value (R81 to R89, R93). -/
def Obligations.DecodeOfEncode : Prop :=
  ∀ i : Instr, decode (encode i) = .ok i

/-- A word that decodes is the one word of its operation: no bit of a command word is ignored (R81, R94). -/
def Obligations.EncodeOfDecode : Prop :=
  ∀ (w : CommandWord) (i : Instr), decode w = .ok i → encode i = w

/-- R88: a word selects at most one row, and the decoder accepts it exactly when it selects one. -/
def Obligations.DecodeAcceptsExactlyTheRows : Prop :=
  (∀ (w : CommandWord) (o o' : Opcode),
    w &&& opcodeMask o = opcodeMatch o → w &&& opcodeMask o' = opcodeMatch o' → o = o') ∧
  (∀ w : CommandWord, (∃ i, decode w = .ok i) ↔ ∃ o, w &&& opcodeMask o = opcodeMatch o)

/-- R94: why a reserved word is reserved, read off its bits. -/
def Obligations.ReservedWordsByReason : Prop :=
  ∀ w : CommandWord,
    (decode w = .error .reservedOpcode ↔ w.extractLsb' 20 4 = 0#4 ∨ 8#4 ≤ w.extractLsb' 20 4) ∧
    (decode w = .error .nonzeroPadding ↔
      (w.extractLsb' 20 4 ≠ 0#4 ∧ w.extractLsb' 20 4 < 8#4) ∧ ∀ o, w &&& opcodeMask o ≠ opcodeMatch o)

/-- Words written out in spec/95_test_vectors.md section 2.1 decode to the operations they stand for, and three reserved words do
not decode. -/
def Obligations.DecodeOfListedWords : Prop :=
  decode 0x100002#24 = .ok (.level .tactB) ∧ decode 0x200001#24 = .ok (.poll .tactA) ∧
  decode 0x3000FF#24 = .ok (.pollt 255#8) ∧ decode 0x400001#24 = .ok (.step true) ∧
  decode 0x500000#24 = .ok .stop ∧ decode 0x614F07#24 = .ok (.refresh 0x4F#8 0x07#8 false true) ∧
  decode 0x628000#24 = .ok (.refresh 0x80#8 0x00#8 true false) ∧ decode 0x70000F#24 = .ok (.digit 15#4) ∧
  decode 0x000000#24 = .error .reservedOpcode ∧ decode 0xF00000#24 = .error .reservedOpcode ∧
  decode 0x640000#24 = .error .nonzeroPadding

/-- R90: the operands the assembler supplies when they are left out. -/
def Obligations.AssemblerDefaults : Prop :=
  ∀ (pr : Params) (lp rp : AsmPattern),
    assemble pr (.step none) = .step false ∧ assemble pr (.pollt none) = .pollt 1#8 ∧
    assemble pr (.refresh lp rp none none) = .refresh (patternByte pr lp) (patternByte pr rp) false false

/-! ## The step -/

/-- When a command is valid and the block is ready, no reset holds it and none is planned, and the word decodes to `i`, the step is
the operation `i` performed after the transfer of the word (R32, R93). That `cmd_valid` and an earlier response fall with the
transfer is the model's choice (log entry 13). -/
def Obligations.StepRunsTheDecodedCommand : Prop :=
  ∀ (s : State) (i : Instr),
    s.cmdValid = true → s.cmdReady = true → s.rst = false → s.rstDuring = none → decode s.cmd = .ok i →
      step s = exec i { s with cmdValid := false, cmdReady := false, rspValid := false }

/-- R94: a reserved word that is transferred is refused, with the reason. -/
def Obligations.StepRefusesReservedWords : Prop :=
  ∀ (s : State) (why : Reject),
    s.cmdValid = true → s.cmdReady = true → s.rst = false → decode s.cmd = .error why →
      step s = .refused (.reservedCommand why)

/-- A word placed by `withFetchWord` is run by the very next step, whatever the state was (log entry 5). That `cmd_valid` and an
earlier response fall with the transfer is the model's choice (log entry 13). -/
def Obligations.PlacedWordIsRunNext : Prop :=
  ∀ (s : State) (i : Instr),
    ∃ u : State, step (s.withFetchWord 24 (encode i).toNat) = exec i u ∧
      u = { s with cmd := encode i, cmdValid := false, cmdReady := false, rst := false, rstDuring := none, rspValid := false }

/-- R238, R32, R230: with no command to take (none is valid, the block is not ready, or reset holds it) and no move to come, the
block waits; an earlier response is gone, which is the model's choice (log entry 13). -/
def Obligations.IdleStepOnlyDropsTheResponse : Prop :=
  ∀ s : State, s.cmdValid = false ∨ s.cmdReady = false ∨ s.rst = true → s.inputs = [] →
    step s = .next { s with rspValid := false }

/-- The caller presents a word, the environment sets a line, the reset line is planned: each such move leaves the plan of moves and
changes its port or plan, and nothing else of the machine but that an earlier response is gone, which is the model's choice (R14,
R15, R30; log entries 5, 9, 13). -/
def Obligations.MovesOfCallerAndEnvironment : Prop :=
  ∀ (s : State) (rest : List Input) (w : CommandWord) (l : Line) (b : Bool) (k : Nat),
    s.cmdValid = false ∨ s.cmdReady = false ∨ s.rst = true →
      (s.inputs = .command w :: rest →
        step s = .next { s with inputs := rest, rspValid := false, cmd := w, cmdValid := true }) ∧
      (s.inputs = .rawLevel l b :: rest →
        step s = .next { s with inputs := rest, rspValid := false, raw := s.raw.set l b }) ∧
      (s.inputs = .rstDuring k :: rest →
        step s = .next { s with inputs := rest, rspValid := false, rstDuring := some k })

/-- R230, R237: when the reset line rises between operations every register and port takes its reset value, the block is not
ready and presents no response, and the downstream latches keep what they held. -/
def Obligations.ResetLineRises : Prop :=
  ∀ (s : State) (rest : List Input),
    s.cmdValid = false ∨ s.cmdReady = false ∨ s.rst = true → s.inputs = .rst true :: rest →
      ∃ t, step s = .next t ∧ AtReset t ∧ t.rst = true ∧ t.cmdReady = false ∧ t.rspValid = false ∧
        t.coilQ = s.coilQ ∧ t.dcmQ = s.dcmQ ∧ t.digLQ = s.digLQ ∧ t.digRQ = s.digRQ

/-- R230: while the reset line is high no command is taken; when it falls the block is at its reset values and ready. -/
def Obligations.ResetLineFalls : Prop :=
  ∀ (s : State) (rest : List Input), s.rst = true →
    step s = waitForCommand s ∧
    (s.inputs = .rst false :: rest →
      ∃ t, step s = .next t ∧ AtReset t ∧ t.rst = false ∧ t.cmdReady = true ∧ t.rspValid = false ∧
        t.coilQ = s.coilQ ∧ t.dcmQ = s.dcmQ ∧ t.digLQ = s.digLQ ∧ t.digRQ = s.digRQ)

/-- R204 (c), R230, R237 for STEP and STOP: reset rising after `k` events of the operation leaves the block at its reset values
without a response, the other events do not occur, and the latch behind BCLK holds the new values exactly when the rising edge of
BCLK had occurred: the fourth event of a STEP (the third with no DC-motor line), the third of a STOP. The count of events is the
model's form of "at whatever event it had reached" (log entry 9). BCLK is low and DCM within its width in every state the
invariant admits. -/
def Obligations.ResetInsidePhaseSequencerOperation : Prop :=
  ∀ (s : State) (k : Nat),
    s.cmdValid = true → s.cmdReady = true → s.rst = false → s.rstDuring = some k → s.bclk = false →
      (∀ (rev : Bool) (pat : Nibble) (edge : Nat), decode s.cmd = .ok (.step rev) → s.dcm < 2 ^ s.params.ndc →
        pat = patternFrom s.params rev s.phaseCtr → edge = (if s.params.ndc = 0 then 3 else 4) →
        ∃ t, step s = .next t ∧ HeldInReset t ∧
          t.coilQ = (if k < edge then s.coilQ else pat) ∧ t.dcmQ = (if k < edge then s.dcmQ else 0) ∧
          t.digLQ = s.digLQ ∧ t.digRQ = s.digRQ ∧
          t.trace = s.trace ++ List.take k ([.write (.coil pat)] ++
            (if s.params.ndc = 0 then [] else [.write (.dcm 0)]) ++
            [.wait .clk, .write (.bclk true), .write (.bclk false), .wait .step])) ∧
      (decode s.cmd = .ok .stop →
        ∃ t, step s = .next t ∧ HeldInReset t ∧
          t.coilQ = (if k < 3 then s.coilQ else 0) ∧ t.dcmQ = (if k < 3 then s.dcmQ else s.dcm) ∧
          t.digLQ = s.digLQ ∧ t.digRQ = s.digRQ ∧
          t.trace = s.trace ++
            List.take k [.write (.coil 0#4), .wait .clk, .write (.bclk true), .write (.bclk false)])

/-- R204 (c), R230, R237 for the other operations: in a REFRESH the left latch is committed by the second event and the right one by
the sixth; LEVEL, POLL, POLLT and DIGIT commit nothing. Of the operation's events exactly the first `k` occur (log entry 9). -/
def Obligations.ResetInsideOtherOperations : Prop :=
  ∀ (s : State) (k : Nat),
    s.cmdValid = true → s.cmdReady = true → s.rst = false → s.rstDuring = some k →
      (∀ (lp rp : Byte) (ld rd : Bool) (vl vr : Byte), decode s.cmd = .ok (.refresh lp rp ld rd) →
        s.dsl = false → s.dsr = false → vl = busVal s.params lp ld → vr = busVal s.params rp rd →
        ∃ t, step s = .next t ∧ HeldInReset t ∧
          t.digLQ = (if k < 2 then s.digLQ else vl) ∧ t.digRQ = (if k < 6 then s.digRQ else vr) ∧
          t.coilQ = s.coilQ ∧ t.dcmQ = s.dcmQ ∧
          t.trace = s.trace ++ List.take k [.write (.seg vl), .write (.dsl true), .write (.dsl false), .wait .bus,
            .write (.seg vr), .write (.dsr true), .write (.dsr false)]) ∧
      (∀ i : Instr,
        ((∃ l, i = .level l) ∨ (∃ l, i = .poll l) ∨ (∃ thr, i = .pollt thr) ∨ ∃ d, i = .digit d) →
        decode s.cmd = .ok i → inDomain i s = true →
        ∃ t u, step s = .next t ∧ exec i s = .next u ∧ HeldInReset t ∧
          t.coilQ = s.coilQ ∧ t.dcmQ = s.dcmQ ∧ t.digLQ = s.digLQ ∧ t.digRQ = s.digRQ ∧
          t.trace = s.trace ++ List.take k (List.drop s.trace.length u.trace))

/-- R66: the external DC-motor driver's move, between two operations and with BCLK low, drives DCM to its pattern and COIL to zero
and commits both; while reset holds the block the model has no such move (log entry 10). -/
def Obligations.ExternalDriverMove : Prop :=
  ∀ (s : State) (rest : List Input) (pat : Nat), s.inputs = .dcMotor pat :: rest →
    (s.cmdValid = false → s.rst = false → s.bclk = false →
      ∃ t, step s = .next t ∧ t.dcm = pat % 2 ^ s.params.ndc ∧ t.dcmQ = pat % 2 ^ s.params.ndc ∧ t.coil = 0#4 ∧
        t.coilQ = 0#4 ∧ t.bclk = false ∧ t.phaseCtr = s.phaseCtr ∧ SameEdgeDetector s t ∧ SameDisplay s t) ∧
    (s.rst = true → step s = .refused .externalDriverInReset)

/-- No step changes the build's parameters (R29; log entry 1). -/
def Obligations.StepKeepsParameters : Prop :=
  ∀ s t : State, step s = .next t → t.params = s.params

/-- R58, R13: a step only appends to the trace, so all events of one step stand before any event of the next. -/
def Obligations.StepAppendsToTrace : Prop :=
  ∀ s t : State, step s = .next t → ∃ es, t.trace = s.trace ++ es

/-! ## Reset and the invariants -/

/-- R230 to R236: the block's registers and ports right after reset. The values of R231 for the photo line and of R232 to R236 are
the spec's own decisions (log entry 14). -/
def Obligations.ResetRegisterValues : Prop :=
  AtReset State.reset ∧ State.reset.cmdReady = true ∧ State.reset.rspValid = false ∧ State.reset.rst = false

/-- The state after reset meets the invariant, and with nothing remembered the watched one. -/
def Obligations.ResetMeetsTheInvariants : Prop :=
  Inv State.reset ∧ Watched.Inv { st := State.reset, threshold := none, commit := none }

/-- R37 (a) and (d), R15: every step keeps the invariant of the states between operations, from every state that meets it. -/
def Obligations.StepKeepsInvariant : Prop :=
  ∀ s t : State, Inv s → step s = .next t → Inv t

/-- R37 whole ((c) holds by the width of the counter): with the threshold of the most recent POLLT since reset and the operation
behind the last rising edge of BCLK remembered, every step keeps (a), (b), (d) and (e), an operation that reset cuts short too. -/
def Obligations.WatchedStepKeepsInvariant : Prop :=
  ∀ w w' : Watched, w.Inv → w.step = some w' → w'.Inv

/-! ## Ports, commits, waits -/

/-- R35: COIL and DCM are committed together at a BCLK write of 1 that finds 0, and at no other event. -/
def Obligations.ClockLineCommits : Prop :=
  ∀ (s : State) (d : Drive),
    ((s.drive d).coilQ = if d = .bclk true ∧ s.bclk = false then s.coil else s.coilQ) ∧
    ((s.drive d).dcmQ = if d = .bclk true ∧ s.bclk = false then s.dcm else s.dcmQ) ∧
    (∀ T : Delay, (s.wait T).coilQ = s.coilQ ∧ (s.wait T).dcmQ = s.dcmQ) ∧
    (∀ l : Line, (s.sample l).2.coilQ = s.coilQ ∧ (s.sample l).2.dcmQ = s.dcmQ)

/-- R36: the segment bus is committed into a digit's latch at a write of 1 to that digit's select line that finds 0, and at no
other event. -/
def Obligations.DigitSelectCommits : Prop :=
  ∀ (s : State) (d : Drive),
    ((s.drive d).digLQ = if d = .dsl true ∧ s.dsl = false then s.seg else s.digLQ) ∧
    ((s.drive d).digRQ = if d = .dsr true ∧ s.dsr = false then s.seg else s.digRQ) ∧
    (∀ T : Delay, (s.wait T).digLQ = s.digLQ ∧ (s.wait T).digRQ = s.digRQ) ∧
    (∀ l : Line, (s.sample l).2.digLQ = s.digLQ ∧ (s.sample l).2.digRQ = s.digRQ)

/-- R54, R55: a drive sets its own port, whole, and no other port; driving a one-bit port to the value it holds changes no port and
no latch. -/
def Obligations.DriveSetsItsPort : Prop :=
  ∀ s : State,
    (∀ d : Drive,
      (s.drive d).coil = (match d with | .coil v => v | _ => s.coil) ∧
      (s.drive d).dcm = (match d with | .dcm v => v % 2 ^ s.params.ndc | _ => s.dcm) ∧
      (s.drive d).bclk = (match d with | .bclk b => b | _ => s.bclk) ∧
      (s.drive d).seg = (match d with | .seg v => v | _ => s.seg) ∧
      (s.drive d).dsl = (match d with | .dsl b => b | _ => s.dsl) ∧
      (s.drive d).dsr = (match d with | .dsr b => b | _ => s.dsr)) ∧
    s.drive (.bclk s.bclk) = s.log (.write (.bclk s.bclk)) ∧
    s.drive (.dsl s.dsl) = s.log (.write (.dsl s.dsl)) ∧
    s.drive (.dsr s.dsr) = s.log (.write (.dsr s.dsr))

/-- R140: from BCLK low, the clock-reset sequence waits, raises and drops the line; BCLK is low after it, COIL and DCM are
committed, and nothing else changes. -/
def Obligations.ClockResetSequence : Prop :=
  ∀ s : State, s.bclk = false →
    s.clockReset = { s with
      bclk := false, coilQ := s.coil, dcmQ := s.dcm
      trace := s.trace ++ [.wait .clk, .write (.bclk true), .write (.bclk false)] }

/-- R53, R8: one activity test makes one sample; it is the level on the toggle line and its negation on the other three. -/
def Obligations.ActiveUsesPolarity : Prop :=
  ∀ s : State,
    (s.active .toggle).1 = s.raw.toggle ∧ (s.active .tactA).1 = (!s.raw.tactA) ∧
    (s.active .tactB).1 = (!s.raw.tactB) ∧ (s.active .photo).1 = (!s.raw.photo) ∧
    ∀ l, (s.active l).2 = s.log (.sample l (s.raw.get l))

/-- R212, R210: the waits of each operation that completes, and so the least time it holds the caller. The durations are constants
about which only R7's positivity is known (log entry 2). -/
def Obligations.WaitsOfEachOperation : Prop :=
  ∀ (i : Instr) (s t : State), exec i s = .next t →
    leastDuration (t.trace.drop s.trace.length) =
      match i with
      | .level _ => 0
      | .poll _ => Config.minCycles .deb
      | .pollt _ => Config.minCycles .deb
      | .step _ => Config.minCycles .clk + Config.minCycles .step
      | .stop => Config.minCycles .clk
      | .refresh _ _ _ _ => Config.minCycles .bus
      | .digit _ => 0

/-! ## Edge Detector -/

/-- R110: LEVEL samples once without a wait and returns the activity; no register, port or latch changes; and the command word R110
gives it. -/
def Obligations.LevelReturnsActivity : Prop :=
  ∀ (l : Line) (s : State),
    exec (.level l) s = .next { s with
      rsp := if activityOf s l then 1#8 else 0#8, rspValid := true, cmdReady := true
      trace := s.trace ++ [.sample l (s.raw.get l)] } ∧
    encode (.level l) = 0x100000#24 ||| (lineBits l).setWidth 24

/-- R112: the Edge step waits, samples once, and follows the transition table; no other line's bit and no other field of the state
changes, but for `passed_state` on the photo line, which takes the activity (R113, the spec's decision D9, log entry 15). -/
def Obligations.EdgeTransitionTable : Prop :=
  ∀ (l : Line) (s : State),
    ((s.edge l).2.trace = s.trace ++ [.wait .deb, .sample l (s.raw.get l)]) ∧
    (∀ a m : Bool, activityOf s l = a → s.armed.get l = m →
      ((m = true → a = false → (s.edge l).2.armed.get l = true ∧ (s.edge l).1 = false) ∧
       (m = true → a = true → (s.edge l).2.armed.get l = false ∧ (s.edge l).1 = true) ∧
       (m = false → a = true → (s.edge l).2.armed.get l = false ∧ (s.edge l).1 = false) ∧
       (m = false → a = false → (s.edge l).2.armed.get l = true ∧ (s.edge l).1 = false))) ∧
    (∀ l', l' ≠ l → (s.edge l).2.armed.get l' = s.armed.get l') ∧
    (l ≠ .photo → (s.edge l).2.passedState = s.passedState) ∧ (s.edge .photo).2.passedState = activityOf s .photo ∧
    (s.edge l).2 = { s with
      armed := (s.edge l).2.armed, passedState := (s.edge l).2.passedState, trace := (s.edge l).2.trace }

/-- R113 (the spec's decision D9): the Edge step of the photo line writes `passed_state` with the activity it sampled, so
`passed_state` and `armed[PHOTO]` are complementary after it. -/
def Obligations.PhotoEdgeWritesPassedState : Prop :=
  ∀ s : State,
    (s.edge .photo).2.passedState = (!s.raw.photo) ∧
    (s.edge .photo).2.passedState = !(s.edge .photo).2.armed.photo

/-- R114: POLL of the toggle or a tact line returns the edge and writes that line's `armed` bit and nothing else; and the command
word R114 gives POLL of every line, the photo line too. -/
def Obligations.PollReturnsTheEdge : Prop :=
  ∀ (l : Line) (s : State),
    (l ≠ .photo →
      exec (.poll l) s = .next { s with
        armed := s.armed.set l (!activityOf s l)
        rsp := if activityOf s l && s.armed.get l then 1#8 else 0#8, rspValid := true, cmdReady := true
        trace := s.trace ++ [.wait .deb, .sample l (s.raw.get l)] }) ∧
    encode (.poll l) = 0x200000#24 ||| (lineBits l).setWidth 24

/-- R115 (the spec's decision D12): POLL PHOTO is POLLT 1, its domain condition included. -/
def Obligations.PollPhotoIsPolltOne : Prop :=
  ∀ s : State,
    exec (.poll .photo) s = exec (.pollt 1#8) s ∧
    (0 < s.count.toNat → exec (.poll .photo) s = .refused .countNotBelowThreshold)

/-- R116: inside the domain POLLT counts a raw edge, returns 1 and clears `count` when the count reaches the threshold, and returns
0 otherwise; it writes `armed[PHOTO]`, `passed_state` (R113, the spec's decision D9, log entry 15) and `count` and nothing else. -/
def Obligations.PolltCountsRawEdges : Prop :=
  ∀ (thr : Byte) (s : State) (a e : Bool),
    s.count.toNat < thr.toNat → a = (!s.raw.photo) → e = (a && s.armed.photo) →
      exec (.pollt thr) s = .next { s with
        armed := s.armed.set .photo (!a), passedState := a
        count := if e then (if s.count.toNat + 1 = thr.toNat then 0#8 else s.count + 1#8) else s.count
        rsp := if e && decide (s.count.toNat + 1 = thr.toNat) then 1#8 else 0#8, rspValid := true, cmdReady := true
        trace := s.trace ++ [.wait .deb, .sample .photo s.raw.photo] }

/-- R118: inside the domain the sum fits 8 bits and "reaches" may be read as equality or as at-least. -/
def Obligations.CountSumFitsAByte : Prop :=
  ∀ (e : Bool) (count thr : Byte), count.toNat < thr.toNat →
    count.toNat + 1 ≤ thr.toNat ∧ thr.toNat ≤ 255 ∧ (count + 1#8).toNat = count.toNat + 1 ∧
    countStep e count thr =
      if e then (if thr.toNat ≤ count.toNat + 1 then (true, 0#8) else (false, count + 1#8)) else (false, count)

/-- R24: after a POLLT that completed, the count is below its threshold, and no other operation but POLL PHOTO writes it. -/
def Obligations.CountStaysBelowThreshold : Prop :=
  (∀ (thr : Byte) (s t : State), exec (.pollt thr) s = .next t → t.count.toNat < thr.toNat) ∧
  (∀ s t : State, exec (.poll .photo) s = .next t → t.count = 0#8) ∧
  (∀ (i : Instr) (s t : State), (∀ thr, i ≠ .pollt thr) → i ≠ .poll .photo → exec i s = .next t → t.count = s.count)

/-- R120 (the spec's decision D11): POLLT outside its domain is refused. -/
def Obligations.PolltRefusedOutsideDomain : Prop :=
  ∀ (thr : Byte) (s : State),
    (thr = 0#8 → exec (.pollt thr) s = .refused .thresholdZero) ∧
    (thr ≠ 0#8 → thr.toNat ≤ s.count.toNat → exec (.pollt thr) s = .refused .countNotBelowThreshold)

/-- R14, R120, R202: an operation completes exactly when it is inside its domain, and never faults (R200). -/
def Obligations.ExecCompletesExactlyInDomain : Prop :=
  ∀ (i : Instr) (s : State),
    ((∃ t, exec i s = .next t) ↔ inDomain i s = true) ∧ ∀ f, exec i s ≠ .fault f

/-- R121, the one-shot law, for the toggle and tact lines: from any state, POLL returns 1 exactly at the first sample of each
maximal run of active samples, a run that starts while the line is held excepted; every POLL completes. -/
def Obligations.OneShotLaw : Prop :=
  ∀ (l : Line) (as : List Bool) (s : State), l ≠ .photo →
    ∃ t, pollRun (.poll l) l as s = some (oneShot (!s.armed.get l) as, t) ∧ SameSurroundings { s with raw := t.raw } t

/-- R123, the pulse law: from `armed = 1`, a run of inactive samples, a non-empty run of active ones and a run of inactive ones give
exactly one edge, at the first active sample. -/
def Obligations.PulseLaw : Prop :=
  ∀ (l : Line) (m n k : Nat) (s : State), l ≠ .photo → s.armed.get l = true →
    ∃ t, pollRun (.poll l) l
        (List.replicate m false ++ List.replicate (n + 1) true ++ List.replicate k false) s =
      some (List.replicate m false ++ true :: List.replicate n false ++ List.replicate k false, t)

/-- R119, the counting law: POLLT with one threshold, from `count = 0`, returns 1 exactly at the raw edges whose number is a multiple
of the threshold, and the count is the number of raw edges modulo the threshold. -/
def Obligations.CountingLaw : Prop :=
  ∀ (thr : Byte) (as : List Bool) (s : State), thr ≠ 0#8 → s.count = 0#8 →
    ∃ t, pollRun (.pollt thr) .photo as s = some (everyNth thr.toNat 0 (oneShot (!s.armed.photo) as), t) ∧
      t.count.toNat = ((oneShot (!s.armed.photo) as).filter id).length % thr.toNat

/-! ## Phase Sequencer -/

/-- R142, R151: STEP advances the counter, drives the new phase's pattern and zeroes DCM, and commits both; nothing else changes. With
no DC-motor line there is no DCM event (log entry 16). The reverse patterns are the spec's reading D14 (log entry 25). -/
def Obligations.StepEmitsThePattern : Prop :=
  ∀ (rev : Bool) (s : State) (pat : Nibble), s.bclk = false → pat = patternFrom s.params rev s.phaseCtr →
    exec (.step rev) s = .next { s with
      phaseCtr := s.phaseCtr + 1#2, coil := pat, dcm := 0, bclk := false, coilQ := pat, dcmQ := 0
      rsp := 0#8, rspValid := true, cmdReady := true
      trace := s.trace ++ ([.write (.coil pat)] ++ (if s.params.ndc = 0 then [] else [.write (.dcm 0)]) ++
        [.wait .clk, .write (.bclk true), .write (.bclk false), .wait .step]) }

/-- R144: phases 1 and 3 emit the same pattern in both directions, phases 2 and 4 exchange theirs. "Mirrored" is read as the spec
reads it (D14, log entry 25). -/
def Obligations.ReverseExchangesTwoAndFour : Prop :=
  ∀ pr : Params,
    (stepPattern pr false 1 = pr.coilPat[0] ∧ stepPattern pr false 2 = pr.coilPat[1] ∧
      stepPattern pr false 3 = pr.coilPat[2] ∧ stepPattern pr false 4 = pr.coilPat[3]) ∧
    (stepPattern pr true 1 = pr.coilPat[0] ∧ stepPattern pr true 2 = pr.coilPat[3] ∧
      stepPattern pr true 3 = pr.coilPat[2] ∧ stepPattern pr true 4 = pr.coilPat[1])

/-- R143, R145, R149: a run of STEPs in any mix of directions completes, commits the pattern of each successive phase, and advances
the counter by one each time, modulo 4. -/
def Obligations.StepCycleLaw : Prop :=
  ∀ (revs : List Bool) (s : State), s.bclk = false →
    ∃ t, stepRun revs s = some (cyclePatterns s.params s.phaseCtr.toNat revs, t) ∧
      t.phaseCtr.toNat = (s.phaseCtr.toNat + revs.length) % 4

/-- R145: from the reset value of the counter, four forward STEPs visit the four patterns in order and the fifth returns to the
first; four reverse STEPs visit them in the mirrored order. -/
def Obligations.FifthStepReturns : Prop :=
  ∀ s : State, s.bclk = false → s.phaseCtr = 0#2 →
    (∃ t, stepRun [false, false, false, false, false] s = some
      ([s.params.coilPat[0], s.params.coilPat[1], s.params.coilPat[2], s.params.coilPat[3], s.params.coilPat[0]], t)) ∧
    (∃ t, stepRun [true, true, true, true, true] s = some
      ([s.params.coilPat[0], s.params.coilPat[3], s.params.coilPat[2], s.params.coilPat[1], s.params.coilPat[0]], t))

/-- R148: what a STEP commits has exactly one coil line active, or exactly two for a pair table, for every table R7 admits. -/
def Obligations.CommittedStepIsOneOrTwoHot : Prop :=
  ∀ (rev : Bool) (s t : State), s.params.wellFormed = true → s.bclk = false → exec (.step rev) s = .next t →
    t.coilQ ∈ s.params.coilPat ∧ (popcount t.coilQ = 1 ∨ popcount t.coilQ = 2)

/-- R146: STOP zeroes the coil lines and clocks; the phase counter and DCM are not written, and DCM is committed as it stands (the
spec's choice D24, log entry 18). -/
def Obligations.StopZeroesTheCoils : Prop :=
  ∀ s : State, s.bclk = false →
    exec .stop s = .next { s with
      coil := 0#4, bclk := false, coilQ := 0#4, dcmQ := s.dcm
      rsp := 0#8, rspValid := true, cmdReady := true
      trace := s.trace ++ [.write (.coil 0#4), .wait .clk, .write (.bclk true), .write (.bclk false)] }

/-- R147: a STEP after a STOP emits the phase that would have come without it. -/
def Obligations.StepAfterStopResumes : Prop :=
  ∀ (rev : Bool) (s : State), s.bclk = false →
    ∃ t u, performAll [.stop, .step rev] s = .next t ∧ exec (.step rev) s = .next u ∧
      t.coilQ = u.coilQ ∧ t.phaseCtr = u.phaseCtr ∧ t.dcmQ = u.dcmQ

/-! ## Display Refresher -/

/-- R172, R173: with both select lines low, REFRESH commits the left digit's value and then the right digit's, with one bus-settle
wait between the strobes; nothing else changes; and the command word R172 gives it. -/
def Obligations.RefreshCommitsBothDigits : Prop :=
  ∀ (lp rp : Byte) (ld rd : Bool) (s : State) (vl vr : Byte),
    s.dsl = false → s.dsr = false → vl = busVal s.params lp ld → vr = busVal s.params rp rd →
      exec (.refresh lp rp ld rd) s = .next { s with
        seg := vr, dsl := false, dsr := false, digLQ := vl, digRQ := vr
        rsp := 0#8, rspValid := true, cmdReady := true
        trace := s.trace ++ [.write (.seg vl), .write (.dsl true), .write (.dsl false), .wait .bus,
          .write (.seg vr), .write (.dsr true), .write (.dsr false)] } ∧
      encode (.refresh lp rp ld rd) =
        0x600000#24 ||| (BitVec.ofBool ld).setWidth 24 <<< 17 ||| (BitVec.ofBool rd).setWidth 24 <<< 16 |||
          lp.setWidth 24 <<< 8 ||| rp.setWidth 24

/-- R171, R174: bit by bit, the bus carries the pattern, and the point is lit when the pattern's own bit or the dot flag is 1. -/
def Obligations.BusValueOrsTheDot : Prop :=
  ∀ (pr : Params) (pat : Byte) (dot : Bool) (i : Nat),
    (busVal pr pat dot).getLsbD i = (pat.getLsbD i || (dot && decide (i = pr.dotBit.val)))

/-- R176: DIGIT of 0 to 9 returns the table's entry, has no event and writes no register, port or latch; with the parameters'
constraints (R7) the byte has the point's bit clear; and the command word R176 gives it. -/
def Obligations.DigitReturnsTheTableEntry : Prop :=
  ∀ (k : Fin 10) (s : State),
    exec (.digit (BitVec.ofNat 4 k.val)) s = .next { s with
      rsp := s.params.segTable[k], rspValid := true, cmdReady := true } ∧
    (s.params.wellFormed = true → s.params.segTable[k].getLsbD s.params.dotBit.val = false) ∧
    encode (.digit (BitVec.ofNat 4 k.val)) = 0x700000#24 ||| BitVec.ofNat 24 k.val

/-- R177: DIGIT of 10 to 15 completes and returns a free byte; no register, port or latch changes (the counter `draws` is the
model's own and so are its use and its advance, log entry 4; the statement holds for every value of it). -/
def Obligations.DigitOutsideTheTable : Prop :=
  ∀ (d : BitVec 4) (s : State), 10 ≤ d.toNat →
    exec (.digit d) s = .next { s with
      rsp := Config.freeByte s.draws, draws := s.draws + 1, rspValid := true, cmdReady := true }

/-- R178: SHOWDEC of 0 to 99 shows the tens digit on the left and the units digit on the right, with both dot flags
off. -/
def Obligations.ShowDecShowsTwoDigits : Prop :=
  ∀ (v : Fin 160) (s : State), v.val < 100 → s.dsl = false → s.dsr = false →
    ∃ t, showDec v s = .next t ∧
      some t.digLQ = s.params.segTable[v.val / 10]? ∧ some t.digRQ = s.params.segTable[v.val % 10]?

/-! ## Frames, responses and independence -/

/-- R20, R38, R59: LEVEL, POLL and POLLT leave the Phase Sequencer, the display, the surroundings and the free-byte counter as they
were, and LEVEL the Edge Detector too. -/
def Obligations.EdgeDetectorFrame : Prop :=
  ∀ (i : Instr) (s t : State), ((∃ l, i = .level l) ∨ (∃ l, i = .poll l) ∨ ∃ thr, i = .pollt thr) → exec i s = .next t →
    SamePhaseSequencer s t ∧ SameDisplay s t ∧ SameSurroundings s t ∧ t.draws = s.draws ∧
    ((∃ l, i = .level l) → SameEdgeDetector s t) ∧
    (∀ l l', i = .poll l → l' ≠ l → t.armed.get l' = s.armed.get l') ∧
    (∀ thr l', i = .pollt thr → l' ≠ .photo → t.armed.get l' = s.armed.get l')

/-- R20, R38, R59: STEP and STOP leave the Edge Detector, the display, the surroundings and the free-byte counter as they were, and
STOP the counter of phases and DCM too. -/
def Obligations.PhaseSequencerFrame : Prop :=
  ∀ (i : Instr) (s t : State), ((∃ rev, i = .step rev) ∨ i = .stop) → exec i s = .next t →
    SameEdgeDetector s t ∧ SameDisplay s t ∧ SameSurroundings s t ∧ t.draws = s.draws ∧
    (i = .stop → t.phaseCtr = s.phaseCtr ∧ t.dcm = s.dcm)

/-- R20, R38, R59: REFRESH and DIGIT leave the Edge Detector, the Phase Sequencer and the surroundings as they were; DIGIT leaves the
display too, and REFRESH the free-byte counter. -/
def Obligations.DisplayRefresherFrame : Prop :=
  ∀ (i : Instr) (s t : State), ((∃ lp rp ld rd, i = .refresh lp rp ld rd) ∨ ∃ d, i = .digit d) → exec i s = .next t →
    SameEdgeDetector s t ∧ SamePhaseSequencer s t ∧ SameSurroundings s t ∧
    ((∃ d, i = .digit d) → SameDisplay s t ∧ t.trace = s.trace) ∧
    ((∃ lp rp ld rd, i = .refresh lp rp ld rd) → t.draws = s.draws)

/-- R25, R147: over all steps of the machine, only a STEP that completes and the reset line change the phase counter. -/
def Obligations.OnlyStepAndResetChangeThePhase : Prop :=
  ∀ s t : State, step s = .next t → t.phaseCtr ≠ s.phaseCtr →
    (∃ rev, completes s = some (.step rev)) ∨ t.rst = true ∨ s.rst = true

/-- R91: an operation that completes presents a response and is ready again; the response of LEVEL, POLL and POLLT is 0 or 1, that of
STEP, STOP and REFRESH is 0. -/
def Obligations.ResponseOfEachOperation : Prop :=
  ∀ (i : Instr) (s t : State), exec i s = .next t →
    t.rspValid = true ∧ t.cmdReady = true ∧
      match i with
      | .level _ => t.rsp = 0#8 ∨ t.rsp = 1#8
      | .poll _ => t.rsp = 0#8 ∨ t.rsp = 1#8
      | .pollt _ => t.rsp = 0#8 ∨ t.rsp = 1#8
      | .step _ => t.rsp = 0#8
      | .stop => t.rsp = 0#8
      | .refresh _ _ _ _ => t.rsp = 0#8
      | .digit _ => True

/-- R59: STEP, STOP, REFRESH and DIGIT sample no input: with one raw line at another level they do the same. -/
def Obligations.OutputOperationsIgnoreTheSensors : Prop :=
  ∀ (i : Instr) (s t : State) (l : Line) (b : Bool),
    ((∃ rev, i = .step rev) ∨ i = .stop ∨ (∃ lp rp ld rd, i = .refresh lp rp ld rd) ∨ ∃ d, i = .digit d) →
    exec i s = .next t → exec i (s.presentLevel l b) = .next (t.presentLevel l b)

/-- R59: what LEVEL, POLL and POLLT return and write depends on the Edge Detector's registers and the raw lines alone, not on the
state of another unit. -/
def Obligations.EdgeResultsIgnoreOtherUnits : Prop :=
  ∀ (i : Instr) (s s' t : State),
    ((∃ l, i = .level l) ∨ (∃ l, i = .poll l) ∨ ∃ thr, i = .pollt thr) →
    SameEdgeDetector s s' → s'.raw = s.raw → exec i s = .next t →
      ∃ t', exec i s' = .next t' ∧ t'.rsp = t.rsp ∧ SameEdgeDetector t t'
end

