-- ==== Sys2Proof/Laws/Decode.lean ====
section
/-! SUPPORT. Small facts of the command encoding. -/

namespace Sys2Proof

theorem lineOfBits_lineBits (l : Line) : lineOfBits (lineBits l) = l := by cases l <;> rfl

theorem lineBits_lineOfBits (b : BitVec 2) : lineBits (lineOfBits b) = b := by
  revert b
  decide

/-- The row of an operation. -/
def opcodeOf (i : Instr) : Opcode :=
  match i with
  | .level _ => .level
  | .poll _ => .poll
  | .pollt _ => .pollt
  | .step _ => .step
  | .stop => .stop
  | .refresh _ _ _ _ => .refresh
  | .digit _ => .digit

theorem mem_opcodeRows (o : Opcode) : o ∈ opcodeRows := by cases o <;> decide

/-- A decoder's answer is the operands of a row the word selects. -/
theorem decode_ok (w : CommandWord) (i : Instr) (h : decode w = .ok i) :
    ∃ o ∈ opcodeRows, rowSelects w o = true ∧ i = operandsOf o w := by
  unfold decode at h
  split at h
  · rename_i o ho
    exact ⟨o, List.mem_of_find?_eq_some ho, List.find?_some ho, by injection h with h; exact h.symm⟩
  · exact absurd h (by simp)

end Sys2Proof
end

