-- ==== Sys2Proof/Laws/State.lean ====
section
/-! SUPPORT. What each named update of the state does to each field, and the one-bit-per-line record. -/

namespace Sys2Proof.Machine

@[simp] theorem LineBits.get_set_self (v : LineBits) (l : Line) (b : Bool) : (v.set l b).get l = b := by
  cases l <;> rfl

theorem LineBits.get_set_other (v : LineBits) (b : Bool) {l l' : Line} (h : l' ≠ l) : (v.set l b).get l' = v.get l' := by
  cases l <;> cases l' <;> first | rfl | exact absurd rfl h

@[simp] theorem LineBits.set_set (v : LineBits) (l : Line) (a b : Bool) : (v.set l a).set l b = v.set l b := by
  cases l <;> rfl

variable (s : State)

@[simp] theorem State.log_params (e : Event) : (s.log e).params = s.params := rfl
@[simp] theorem State.log_armed (e : Event) : (s.log e).armed = s.armed := rfl
@[simp] theorem State.log_passedState (e : Event) : (s.log e).passedState = s.passedState := rfl
@[simp] theorem State.log_count (e : Event) : (s.log e).count = s.count := rfl
@[simp] theorem State.log_phaseCtr (e : Event) : (s.log e).phaseCtr = s.phaseCtr := rfl
@[simp] theorem State.log_coil (e : Event) : (s.log e).coil = s.coil := rfl
@[simp] theorem State.log_dcm (e : Event) : (s.log e).dcm = s.dcm := rfl
@[simp] theorem State.log_bclk (e : Event) : (s.log e).bclk = s.bclk := rfl
@[simp] theorem State.log_seg (e : Event) : (s.log e).seg = s.seg := rfl
@[simp] theorem State.log_dsl (e : Event) : (s.log e).dsl = s.dsl := rfl
@[simp] theorem State.log_dsr (e : Event) : (s.log e).dsr = s.dsr := rfl
@[simp] theorem State.log_coilQ (e : Event) : (s.log e).coilQ = s.coilQ := rfl
@[simp] theorem State.log_dcmQ (e : Event) : (s.log e).dcmQ = s.dcmQ := rfl
@[simp] theorem State.log_digLQ (e : Event) : (s.log e).digLQ = s.digLQ := rfl
@[simp] theorem State.log_digRQ (e : Event) : (s.log e).digRQ = s.digRQ := rfl
@[simp] theorem State.log_raw (e : Event) : (s.log e).raw = s.raw := rfl
@[simp] theorem State.log_rst (e : Event) : (s.log e).rst = s.rst := rfl
@[simp] theorem State.log_cmd (e : Event) : (s.log e).cmd = s.cmd := rfl
@[simp] theorem State.log_cmdValid (e : Event) : (s.log e).cmdValid = s.cmdValid := rfl
@[simp] theorem State.log_cmdReady (e : Event) : (s.log e).cmdReady = s.cmdReady := rfl
@[simp] theorem State.log_rsp (e : Event) : (s.log e).rsp = s.rsp := rfl
@[simp] theorem State.log_rspValid (e : Event) : (s.log e).rspValid = s.rspValid := rfl
@[simp] theorem State.log_draws (e : Event) : (s.log e).draws = s.draws := rfl
@[simp] theorem State.log_rstDuring (e : Event) : (s.log e).rstDuring = s.rstDuring := rfl
@[simp] theorem State.log_inputs (e : Event) : (s.log e).inputs = s.inputs := rfl
@[simp] theorem State.log_trace (e : Event) : (s.log e).trace = s.trace ++ [e] := rfl

@[simp] theorem State.ret_params (v : Byte) : (s.ret v).params = s.params := rfl
@[simp] theorem State.ret_armed (v : Byte) : (s.ret v).armed = s.armed := rfl
@[simp] theorem State.ret_passedState (v : Byte) : (s.ret v).passedState = s.passedState := rfl
@[simp] theorem State.ret_count (v : Byte) : (s.ret v).count = s.count := rfl
@[simp] theorem State.ret_phaseCtr (v : Byte) : (s.ret v).phaseCtr = s.phaseCtr := rfl
@[simp] theorem State.ret_coil (v : Byte) : (s.ret v).coil = s.coil := rfl
@[simp] theorem State.ret_dcm (v : Byte) : (s.ret v).dcm = s.dcm := rfl
@[simp] theorem State.ret_bclk (v : Byte) : (s.ret v).bclk = s.bclk := rfl
@[simp] theorem State.ret_seg (v : Byte) : (s.ret v).seg = s.seg := rfl
@[simp] theorem State.ret_dsl (v : Byte) : (s.ret v).dsl = s.dsl := rfl
@[simp] theorem State.ret_dsr (v : Byte) : (s.ret v).dsr = s.dsr := rfl
@[simp] theorem State.ret_coilQ (v : Byte) : (s.ret v).coilQ = s.coilQ := rfl
@[simp] theorem State.ret_dcmQ (v : Byte) : (s.ret v).dcmQ = s.dcmQ := rfl
@[simp] theorem State.ret_digLQ (v : Byte) : (s.ret v).digLQ = s.digLQ := rfl
@[simp] theorem State.ret_digRQ (v : Byte) : (s.ret v).digRQ = s.digRQ := rfl
@[simp] theorem State.ret_raw (v : Byte) : (s.ret v).raw = s.raw := rfl
@[simp] theorem State.ret_rst (v : Byte) : (s.ret v).rst = s.rst := rfl
@[simp] theorem State.ret_cmd (v : Byte) : (s.ret v).cmd = s.cmd := rfl
@[simp] theorem State.ret_cmdValid (v : Byte) : (s.ret v).cmdValid = s.cmdValid := rfl
@[simp] theorem State.ret_cmdReady (v : Byte) : (s.ret v).cmdReady = true := rfl
@[simp] theorem State.ret_rsp (v : Byte) : (s.ret v).rsp = v := rfl
@[simp] theorem State.ret_rspValid (v : Byte) : (s.ret v).rspValid = true := rfl
@[simp] theorem State.ret_draws (v : Byte) : (s.ret v).draws = s.draws := rfl
@[simp] theorem State.ret_rstDuring (v : Byte) : (s.ret v).rstDuring = s.rstDuring := rfl
@[simp] theorem State.ret_inputs (v : Byte) : (s.ret v).inputs = s.inputs := rfl
@[simp] theorem State.ret_trace (v : Byte) : (s.ret v).trace = s.trace := rfl

@[simp] theorem State.accept_params : (s.accept).params = s.params := rfl
@[simp] theorem State.accept_armed : (s.accept).armed = s.armed := rfl
@[simp] theorem State.accept_passedState : (s.accept).passedState = s.passedState := rfl
@[simp] theorem State.accept_count : (s.accept).count = s.count := rfl
@[simp] theorem State.accept_phaseCtr : (s.accept).phaseCtr = s.phaseCtr := rfl
@[simp] theorem State.accept_coil : (s.accept).coil = s.coil := rfl
@[simp] theorem State.accept_dcm : (s.accept).dcm = s.dcm := rfl
@[simp] theorem State.accept_bclk : (s.accept).bclk = s.bclk := rfl
@[simp] theorem State.accept_seg : (s.accept).seg = s.seg := rfl
@[simp] theorem State.accept_dsl : (s.accept).dsl = s.dsl := rfl
@[simp] theorem State.accept_dsr : (s.accept).dsr = s.dsr := rfl
@[simp] theorem State.accept_coilQ : (s.accept).coilQ = s.coilQ := rfl
@[simp] theorem State.accept_dcmQ : (s.accept).dcmQ = s.dcmQ := rfl
@[simp] theorem State.accept_digLQ : (s.accept).digLQ = s.digLQ := rfl
@[simp] theorem State.accept_digRQ : (s.accept).digRQ = s.digRQ := rfl
@[simp] theorem State.accept_raw : (s.accept).raw = s.raw := rfl
@[simp] theorem State.accept_rst : (s.accept).rst = s.rst := rfl
@[simp] theorem State.accept_cmd : (s.accept).cmd = s.cmd := rfl
@[simp] theorem State.accept_cmdValid : (s.accept).cmdValid = false := rfl
@[simp] theorem State.accept_cmdReady : (s.accept).cmdReady = false := rfl
@[simp] theorem State.accept_rsp : (s.accept).rsp = s.rsp := rfl
@[simp] theorem State.accept_rspValid : (s.accept).rspValid = false := rfl
@[simp] theorem State.accept_draws : (s.accept).draws = s.draws := rfl
@[simp] theorem State.accept_rstDuring : (s.accept).rstDuring = s.rstDuring := rfl
@[simp] theorem State.accept_inputs : (s.accept).inputs = s.inputs := rfl
@[simp] theorem State.accept_trace : (s.accept).trace = s.trace := rfl

@[simp] theorem State.presentCommand_params (w : CommandWord) : (s.presentCommand w).params = s.params := rfl
@[simp] theorem State.presentCommand_armed (w : CommandWord) : (s.presentCommand w).armed = s.armed := rfl
@[simp] theorem State.presentCommand_passedState (w : CommandWord) : (s.presentCommand w).passedState = s.passedState := rfl
@[simp] theorem State.presentCommand_count (w : CommandWord) : (s.presentCommand w).count = s.count := rfl
@[simp] theorem State.presentCommand_phaseCtr (w : CommandWord) : (s.presentCommand w).phaseCtr = s.phaseCtr := rfl
@[simp] theorem State.presentCommand_coil (w : CommandWord) : (s.presentCommand w).coil = s.coil := rfl
@[simp] theorem State.presentCommand_dcm (w : CommandWord) : (s.presentCommand w).dcm = s.dcm := rfl
@[simp] theorem State.presentCommand_bclk (w : CommandWord) : (s.presentCommand w).bclk = s.bclk := rfl
@[simp] theorem State.presentCommand_seg (w : CommandWord) : (s.presentCommand w).seg = s.seg := rfl
@[simp] theorem State.presentCommand_dsl (w : CommandWord) : (s.presentCommand w).dsl = s.dsl := rfl
@[simp] theorem State.presentCommand_dsr (w : CommandWord) : (s.presentCommand w).dsr = s.dsr := rfl
@[simp] theorem State.presentCommand_coilQ (w : CommandWord) : (s.presentCommand w).coilQ = s.coilQ := rfl
@[simp] theorem State.presentCommand_dcmQ (w : CommandWord) : (s.presentCommand w).dcmQ = s.dcmQ := rfl
@[simp] theorem State.presentCommand_digLQ (w : CommandWord) : (s.presentCommand w).digLQ = s.digLQ := rfl
@[simp] theorem State.presentCommand_digRQ (w : CommandWord) : (s.presentCommand w).digRQ = s.digRQ := rfl
@[simp] theorem State.presentCommand_raw (w : CommandWord) : (s.presentCommand w).raw = s.raw := rfl
@[simp] theorem State.presentCommand_rst (w : CommandWord) : (s.presentCommand w).rst = s.rst := rfl
@[simp] theorem State.presentCommand_cmd (w : CommandWord) : (s.presentCommand w).cmd = w := rfl
@[simp] theorem State.presentCommand_cmdValid (w : CommandWord) : (s.presentCommand w).cmdValid = true := rfl
@[simp] theorem State.presentCommand_cmdReady (w : CommandWord) : (s.presentCommand w).cmdReady = s.cmdReady := rfl
@[simp] theorem State.presentCommand_rsp (w : CommandWord) : (s.presentCommand w).rsp = s.rsp := rfl
@[simp] theorem State.presentCommand_rspValid (w : CommandWord) : (s.presentCommand w).rspValid = s.rspValid := rfl
@[simp] theorem State.presentCommand_draws (w : CommandWord) : (s.presentCommand w).draws = s.draws := rfl
@[simp] theorem State.presentCommand_rstDuring (w : CommandWord) : (s.presentCommand w).rstDuring = s.rstDuring := rfl
@[simp] theorem State.presentCommand_inputs (w : CommandWord) : (s.presentCommand w).inputs = s.inputs := rfl
@[simp] theorem State.presentCommand_trace (w : CommandWord) : (s.presentCommand w).trace = s.trace := rfl

@[simp] theorem State.presentLevel_params (l : Line) (b : Bool) : (s.presentLevel l b).params = s.params := rfl
@[simp] theorem State.presentLevel_armed (l : Line) (b : Bool) : (s.presentLevel l b).armed = s.armed := rfl
@[simp] theorem State.presentLevel_passedState (l : Line) (b : Bool) : (s.presentLevel l b).passedState = s.passedState := rfl
@[simp] theorem State.presentLevel_count (l : Line) (b : Bool) : (s.presentLevel l b).count = s.count := rfl
@[simp] theorem State.presentLevel_phaseCtr (l : Line) (b : Bool) : (s.presentLevel l b).phaseCtr = s.phaseCtr := rfl
@[simp] theorem State.presentLevel_coil (l : Line) (b : Bool) : (s.presentLevel l b).coil = s.coil := rfl
@[simp] theorem State.presentLevel_dcm (l : Line) (b : Bool) : (s.presentLevel l b).dcm = s.dcm := rfl
@[simp] theorem State.presentLevel_bclk (l : Line) (b : Bool) : (s.presentLevel l b).bclk = s.bclk := rfl
@[simp] theorem State.presentLevel_seg (l : Line) (b : Bool) : (s.presentLevel l b).seg = s.seg := rfl
@[simp] theorem State.presentLevel_dsl (l : Line) (b : Bool) : (s.presentLevel l b).dsl = s.dsl := rfl
@[simp] theorem State.presentLevel_dsr (l : Line) (b : Bool) : (s.presentLevel l b).dsr = s.dsr := rfl
@[simp] theorem State.presentLevel_coilQ (l : Line) (b : Bool) : (s.presentLevel l b).coilQ = s.coilQ := rfl
@[simp] theorem State.presentLevel_dcmQ (l : Line) (b : Bool) : (s.presentLevel l b).dcmQ = s.dcmQ := rfl
@[simp] theorem State.presentLevel_digLQ (l : Line) (b : Bool) : (s.presentLevel l b).digLQ = s.digLQ := rfl
@[simp] theorem State.presentLevel_digRQ (l : Line) (b : Bool) : (s.presentLevel l b).digRQ = s.digRQ := rfl
@[simp] theorem State.presentLevel_raw (l : Line) (b : Bool) : (s.presentLevel l b).raw = s.raw.set l b := rfl
@[simp] theorem State.presentLevel_rst (l : Line) (b : Bool) : (s.presentLevel l b).rst = s.rst := rfl
@[simp] theorem State.presentLevel_cmd (l : Line) (b : Bool) : (s.presentLevel l b).cmd = s.cmd := rfl
@[simp] theorem State.presentLevel_cmdValid (l : Line) (b : Bool) : (s.presentLevel l b).cmdValid = s.cmdValid := rfl
@[simp] theorem State.presentLevel_cmdReady (l : Line) (b : Bool) : (s.presentLevel l b).cmdReady = s.cmdReady := rfl
@[simp] theorem State.presentLevel_rsp (l : Line) (b : Bool) : (s.presentLevel l b).rsp = s.rsp := rfl
@[simp] theorem State.presentLevel_rspValid (l : Line) (b : Bool) : (s.presentLevel l b).rspValid = s.rspValid := rfl
@[simp] theorem State.presentLevel_draws (l : Line) (b : Bool) : (s.presentLevel l b).draws = s.draws := rfl
@[simp] theorem State.presentLevel_rstDuring (l : Line) (b : Bool) : (s.presentLevel l b).rstDuring = s.rstDuring := rfl
@[simp] theorem State.presentLevel_inputs (l : Line) (b : Bool) : (s.presentLevel l b).inputs = s.inputs := rfl
@[simp] theorem State.presentLevel_trace (l : Line) (b : Bool) : (s.presentLevel l b).trace = s.trace := rfl

@[simp] theorem State.rstRise_params : (s.rstRise).params = s.params := rfl
@[simp] theorem State.rstRise_armed : (s.rstRise).armed = ⟨true, true, true, true⟩ := rfl
@[simp] theorem State.rstRise_passedState : (s.rstRise).passedState = false := rfl
@[simp] theorem State.rstRise_count : (s.rstRise).count = 0 := rfl
@[simp] theorem State.rstRise_phaseCtr : (s.rstRise).phaseCtr = 0 := rfl
@[simp] theorem State.rstRise_coil : (s.rstRise).coil = 0 := rfl
@[simp] theorem State.rstRise_dcm : (s.rstRise).dcm = 0 := rfl
@[simp] theorem State.rstRise_bclk : (s.rstRise).bclk = false := rfl
@[simp] theorem State.rstRise_seg : (s.rstRise).seg = 0 := rfl
@[simp] theorem State.rstRise_dsl : (s.rstRise).dsl = false := rfl
@[simp] theorem State.rstRise_dsr : (s.rstRise).dsr = false := rfl
@[simp] theorem State.rstRise_coilQ : (s.rstRise).coilQ = s.coilQ := rfl
@[simp] theorem State.rstRise_dcmQ : (s.rstRise).dcmQ = s.dcmQ := rfl
@[simp] theorem State.rstRise_digLQ : (s.rstRise).digLQ = s.digLQ := rfl
@[simp] theorem State.rstRise_digRQ : (s.rstRise).digRQ = s.digRQ := rfl
@[simp] theorem State.rstRise_raw : (s.rstRise).raw = s.raw := rfl
@[simp] theorem State.rstRise_rst : (s.rstRise).rst = true := rfl
@[simp] theorem State.rstRise_cmd : (s.rstRise).cmd = s.cmd := rfl
@[simp] theorem State.rstRise_cmdValid : (s.rstRise).cmdValid = s.cmdValid := rfl
@[simp] theorem State.rstRise_cmdReady : (s.rstRise).cmdReady = false := rfl
@[simp] theorem State.rstRise_rsp : (s.rstRise).rsp = s.rsp := rfl
@[simp] theorem State.rstRise_rspValid : (s.rstRise).rspValid = false := rfl
@[simp] theorem State.rstRise_draws : (s.rstRise).draws = s.draws := rfl
@[simp] theorem State.rstRise_rstDuring : (s.rstRise).rstDuring = s.rstDuring := rfl
@[simp] theorem State.rstRise_inputs : (s.rstRise).inputs = s.inputs := rfl
@[simp] theorem State.rstRise_trace : (s.rstRise).trace = s.trace := rfl

@[simp] theorem State.wait_params (d : Delay) : (s.wait d).params = s.params := rfl
@[simp] theorem State.wait_armed (d : Delay) : (s.wait d).armed = s.armed := rfl
@[simp] theorem State.wait_passedState (d : Delay) : (s.wait d).passedState = s.passedState := rfl
@[simp] theorem State.wait_count (d : Delay) : (s.wait d).count = s.count := rfl
@[simp] theorem State.wait_phaseCtr (d : Delay) : (s.wait d).phaseCtr = s.phaseCtr := rfl
@[simp] theorem State.wait_coil (d : Delay) : (s.wait d).coil = s.coil := rfl
@[simp] theorem State.wait_dcm (d : Delay) : (s.wait d).dcm = s.dcm := rfl
@[simp] theorem State.wait_bclk (d : Delay) : (s.wait d).bclk = s.bclk := rfl
@[simp] theorem State.wait_seg (d : Delay) : (s.wait d).seg = s.seg := rfl
@[simp] theorem State.wait_dsl (d : Delay) : (s.wait d).dsl = s.dsl := rfl
@[simp] theorem State.wait_dsr (d : Delay) : (s.wait d).dsr = s.dsr := rfl
@[simp] theorem State.wait_coilQ (d : Delay) : (s.wait d).coilQ = s.coilQ := rfl
@[simp] theorem State.wait_dcmQ (d : Delay) : (s.wait d).dcmQ = s.dcmQ := rfl
@[simp] theorem State.wait_digLQ (d : Delay) : (s.wait d).digLQ = s.digLQ := rfl
@[simp] theorem State.wait_digRQ (d : Delay) : (s.wait d).digRQ = s.digRQ := rfl
@[simp] theorem State.wait_raw (d : Delay) : (s.wait d).raw = s.raw := rfl
@[simp] theorem State.wait_rst (d : Delay) : (s.wait d).rst = s.rst := rfl
@[simp] theorem State.wait_cmd (d : Delay) : (s.wait d).cmd = s.cmd := rfl
@[simp] theorem State.wait_cmdValid (d : Delay) : (s.wait d).cmdValid = s.cmdValid := rfl
@[simp] theorem State.wait_cmdReady (d : Delay) : (s.wait d).cmdReady = s.cmdReady := rfl
@[simp] theorem State.wait_rsp (d : Delay) : (s.wait d).rsp = s.rsp := rfl
@[simp] theorem State.wait_rspValid (d : Delay) : (s.wait d).rspValid = s.rspValid := rfl
@[simp] theorem State.wait_draws (d : Delay) : (s.wait d).draws = s.draws := rfl
@[simp] theorem State.wait_rstDuring (d : Delay) : (s.wait d).rstDuring = s.rstDuring := rfl
@[simp] theorem State.wait_inputs (d : Delay) : (s.wait d).inputs = s.inputs := rfl
@[simp] theorem State.wait_trace (d : Delay) : (s.wait d).trace = s.trace ++ [.wait d] := rfl

@[simp] theorem State.active_params (l : Line) : (s.active l).2.params = s.params := rfl
@[simp] theorem State.active_armed (l : Line) : (s.active l).2.armed = s.armed := rfl
@[simp] theorem State.active_passedState (l : Line) : (s.active l).2.passedState = s.passedState := rfl
@[simp] theorem State.active_count (l : Line) : (s.active l).2.count = s.count := rfl
@[simp] theorem State.active_phaseCtr (l : Line) : (s.active l).2.phaseCtr = s.phaseCtr := rfl
@[simp] theorem State.active_coil (l : Line) : (s.active l).2.coil = s.coil := rfl
@[simp] theorem State.active_dcm (l : Line) : (s.active l).2.dcm = s.dcm := rfl
@[simp] theorem State.active_bclk (l : Line) : (s.active l).2.bclk = s.bclk := rfl
@[simp] theorem State.active_seg (l : Line) : (s.active l).2.seg = s.seg := rfl
@[simp] theorem State.active_dsl (l : Line) : (s.active l).2.dsl = s.dsl := rfl
@[simp] theorem State.active_dsr (l : Line) : (s.active l).2.dsr = s.dsr := rfl
@[simp] theorem State.active_coilQ (l : Line) : (s.active l).2.coilQ = s.coilQ := rfl
@[simp] theorem State.active_dcmQ (l : Line) : (s.active l).2.dcmQ = s.dcmQ := rfl
@[simp] theorem State.active_digLQ (l : Line) : (s.active l).2.digLQ = s.digLQ := rfl
@[simp] theorem State.active_digRQ (l : Line) : (s.active l).2.digRQ = s.digRQ := rfl
@[simp] theorem State.active_raw (l : Line) : (s.active l).2.raw = s.raw := rfl
@[simp] theorem State.active_rst (l : Line) : (s.active l).2.rst = s.rst := rfl
@[simp] theorem State.active_cmd (l : Line) : (s.active l).2.cmd = s.cmd := rfl
@[simp] theorem State.active_cmdValid (l : Line) : (s.active l).2.cmdValid = s.cmdValid := rfl
@[simp] theorem State.active_cmdReady (l : Line) : (s.active l).2.cmdReady = s.cmdReady := rfl
@[simp] theorem State.active_rsp (l : Line) : (s.active l).2.rsp = s.rsp := rfl
@[simp] theorem State.active_rspValid (l : Line) : (s.active l).2.rspValid = s.rspValid := rfl
@[simp] theorem State.active_draws (l : Line) : (s.active l).2.draws = s.draws := rfl
@[simp] theorem State.active_rstDuring (l : Line) : (s.active l).2.rstDuring = s.rstDuring := rfl
@[simp] theorem State.active_inputs (l : Line) : (s.active l).2.inputs = s.inputs := rfl
@[simp] theorem State.active_trace (l : Line) : (s.active l).2.trace = s.trace ++ [.sample l (s.raw.get l)] := rfl

@[simp] theorem State.drive_params (d : Drive) : (s.drive d).params = s.params := by cases d <;> rfl
@[simp] theorem State.drive_armed (d : Drive) : (s.drive d).armed = s.armed := by cases d <;> rfl
@[simp] theorem State.drive_passedState (d : Drive) : (s.drive d).passedState = s.passedState := by cases d <;> rfl
@[simp] theorem State.drive_count (d : Drive) : (s.drive d).count = s.count := by cases d <;> rfl
@[simp] theorem State.drive_phaseCtr (d : Drive) : (s.drive d).phaseCtr = s.phaseCtr := by cases d <;> rfl
@[simp] theorem State.drive_raw (d : Drive) : (s.drive d).raw = s.raw := by cases d <;> rfl
@[simp] theorem State.drive_rst (d : Drive) : (s.drive d).rst = s.rst := by cases d <;> rfl
@[simp] theorem State.drive_cmd (d : Drive) : (s.drive d).cmd = s.cmd := by cases d <;> rfl
@[simp] theorem State.drive_cmdValid (d : Drive) : (s.drive d).cmdValid = s.cmdValid := by cases d <;> rfl
@[simp] theorem State.drive_cmdReady (d : Drive) : (s.drive d).cmdReady = s.cmdReady := by cases d <;> rfl
@[simp] theorem State.drive_rsp (d : Drive) : (s.drive d).rsp = s.rsp := by cases d <;> rfl
@[simp] theorem State.drive_rspValid (d : Drive) : (s.drive d).rspValid = s.rspValid := by cases d <;> rfl
@[simp] theorem State.drive_draws (d : Drive) : (s.drive d).draws = s.draws := by cases d <;> rfl
@[simp] theorem State.drive_rstDuring (d : Drive) : (s.drive d).rstDuring = s.rstDuring := by cases d <;> rfl
@[simp] theorem State.drive_inputs (d : Drive) : (s.drive d).inputs = s.inputs := by cases d <;> rfl
@[simp] theorem State.drive_trace (d : Drive) : (s.drive d).trace = s.trace ++ s.writeEvents d := rfl

@[simp] theorem State.drive_coil_coil (v : Nibble) : (s.drive (.coil v)).coil = v := rfl
@[simp] theorem State.drive_coil_dcm (v : Nibble) : (s.drive (.coil v)).dcm = s.dcm := rfl
@[simp] theorem State.drive_coil_bclk (v : Nibble) : (s.drive (.coil v)).bclk = s.bclk := rfl
@[simp] theorem State.drive_coil_seg (v : Nibble) : (s.drive (.coil v)).seg = s.seg := rfl
@[simp] theorem State.drive_coil_dsl (v : Nibble) : (s.drive (.coil v)).dsl = s.dsl := rfl
@[simp] theorem State.drive_coil_dsr (v : Nibble) : (s.drive (.coil v)).dsr = s.dsr := rfl
@[simp] theorem State.drive_coil_coilQ (v : Nibble) : (s.drive (.coil v)).coilQ = s.coilQ := rfl
@[simp] theorem State.drive_coil_dcmQ (v : Nibble) : (s.drive (.coil v)).dcmQ = s.dcmQ := rfl
@[simp] theorem State.drive_coil_digLQ (v : Nibble) : (s.drive (.coil v)).digLQ = s.digLQ := rfl
@[simp] theorem State.drive_coil_digRQ (v : Nibble) : (s.drive (.coil v)).digRQ = s.digRQ := rfl
@[simp] theorem State.drive_dcm_coil (v : Nat) : (s.drive (.dcm v)).coil = s.coil := rfl
@[simp] theorem State.drive_dcm_dcm (v : Nat) : (s.drive (.dcm v)).dcm = v % 2 ^ s.params.ndc := rfl
@[simp] theorem State.drive_dcm_bclk (v : Nat) : (s.drive (.dcm v)).bclk = s.bclk := rfl
@[simp] theorem State.drive_dcm_seg (v : Nat) : (s.drive (.dcm v)).seg = s.seg := rfl
@[simp] theorem State.drive_dcm_dsl (v : Nat) : (s.drive (.dcm v)).dsl = s.dsl := rfl
@[simp] theorem State.drive_dcm_dsr (v : Nat) : (s.drive (.dcm v)).dsr = s.dsr := rfl
@[simp] theorem State.drive_dcm_coilQ (v : Nat) : (s.drive (.dcm v)).coilQ = s.coilQ := rfl
@[simp] theorem State.drive_dcm_dcmQ (v : Nat) : (s.drive (.dcm v)).dcmQ = s.dcmQ := rfl
@[simp] theorem State.drive_dcm_digLQ (v : Nat) : (s.drive (.dcm v)).digLQ = s.digLQ := rfl
@[simp] theorem State.drive_dcm_digRQ (v : Nat) : (s.drive (.dcm v)).digRQ = s.digRQ := rfl
@[simp] theorem State.drive_bclk_coil (b : Bool) : (s.drive (.bclk b)).coil = s.coil := rfl
@[simp] theorem State.drive_bclk_dcm (b : Bool) : (s.drive (.bclk b)).dcm = s.dcm := rfl
@[simp] theorem State.drive_bclk_bclk (b : Bool) : (s.drive (.bclk b)).bclk = b := rfl
@[simp] theorem State.drive_bclk_seg (b : Bool) : (s.drive (.bclk b)).seg = s.seg := rfl
@[simp] theorem State.drive_bclk_dsl (b : Bool) : (s.drive (.bclk b)).dsl = s.dsl := rfl
@[simp] theorem State.drive_bclk_dsr (b : Bool) : (s.drive (.bclk b)).dsr = s.dsr := rfl
@[simp] theorem State.drive_bclk_coilQ (b : Bool) : (s.drive (.bclk b)).coilQ = if b && !s.bclk then s.coil else s.coilQ := rfl
@[simp] theorem State.drive_bclk_dcmQ (b : Bool) : (s.drive (.bclk b)).dcmQ = if b && !s.bclk then s.dcm else s.dcmQ := rfl
@[simp] theorem State.drive_bclk_digLQ (b : Bool) : (s.drive (.bclk b)).digLQ = s.digLQ := rfl
@[simp] theorem State.drive_bclk_digRQ (b : Bool) : (s.drive (.bclk b)).digRQ = s.digRQ := rfl
@[simp] theorem State.drive_seg_coil (v : Byte) : (s.drive (.seg v)).coil = s.coil := rfl
@[simp] theorem State.drive_seg_dcm (v : Byte) : (s.drive (.seg v)).dcm = s.dcm := rfl
@[simp] theorem State.drive_seg_bclk (v : Byte) : (s.drive (.seg v)).bclk = s.bclk := rfl
@[simp] theorem State.drive_seg_seg (v : Byte) : (s.drive (.seg v)).seg = v := rfl
@[simp] theorem State.drive_seg_dsl (v : Byte) : (s.drive (.seg v)).dsl = s.dsl := rfl
@[simp] theorem State.drive_seg_dsr (v : Byte) : (s.drive (.seg v)).dsr = s.dsr := rfl
@[simp] theorem State.drive_seg_coilQ (v : Byte) : (s.drive (.seg v)).coilQ = s.coilQ := rfl
@[simp] theorem State.drive_seg_dcmQ (v : Byte) : (s.drive (.seg v)).dcmQ = s.dcmQ := rfl
@[simp] theorem State.drive_seg_digLQ (v : Byte) : (s.drive (.seg v)).digLQ = s.digLQ := rfl
@[simp] theorem State.drive_seg_digRQ (v : Byte) : (s.drive (.seg v)).digRQ = s.digRQ := rfl
@[simp] theorem State.drive_dsl_coil (b : Bool) : (s.drive (.dsl b)).coil = s.coil := rfl
@[simp] theorem State.drive_dsl_dcm (b : Bool) : (s.drive (.dsl b)).dcm = s.dcm := rfl
@[simp] theorem State.drive_dsl_bclk (b : Bool) : (s.drive (.dsl b)).bclk = s.bclk := rfl
@[simp] theorem State.drive_dsl_seg (b : Bool) : (s.drive (.dsl b)).seg = s.seg := rfl
@[simp] theorem State.drive_dsl_dsl (b : Bool) : (s.drive (.dsl b)).dsl = b := rfl
@[simp] theorem State.drive_dsl_dsr (b : Bool) : (s.drive (.dsl b)).dsr = s.dsr := rfl
@[simp] theorem State.drive_dsl_coilQ (b : Bool) : (s.drive (.dsl b)).coilQ = s.coilQ := rfl
@[simp] theorem State.drive_dsl_dcmQ (b : Bool) : (s.drive (.dsl b)).dcmQ = s.dcmQ := rfl
@[simp] theorem State.drive_dsl_digLQ (b : Bool) : (s.drive (.dsl b)).digLQ = if b && !s.dsl then s.seg else s.digLQ := rfl
@[simp] theorem State.drive_dsl_digRQ (b : Bool) : (s.drive (.dsl b)).digRQ = s.digRQ := rfl
@[simp] theorem State.drive_dsr_coil (b : Bool) : (s.drive (.dsr b)).coil = s.coil := rfl
@[simp] theorem State.drive_dsr_dcm (b : Bool) : (s.drive (.dsr b)).dcm = s.dcm := rfl
@[simp] theorem State.drive_dsr_bclk (b : Bool) : (s.drive (.dsr b)).bclk = s.bclk := rfl
@[simp] theorem State.drive_dsr_seg (b : Bool) : (s.drive (.dsr b)).seg = s.seg := rfl
@[simp] theorem State.drive_dsr_dsl (b : Bool) : (s.drive (.dsr b)).dsl = s.dsl := rfl
@[simp] theorem State.drive_dsr_dsr (b : Bool) : (s.drive (.dsr b)).dsr = b := rfl
@[simp] theorem State.drive_dsr_coilQ (b : Bool) : (s.drive (.dsr b)).coilQ = s.coilQ := rfl
@[simp] theorem State.drive_dsr_dcmQ (b : Bool) : (s.drive (.dsr b)).dcmQ = s.dcmQ := rfl
@[simp] theorem State.drive_dsr_digLQ (b : Bool) : (s.drive (.dsr b)).digLQ = s.digLQ := rfl
@[simp] theorem State.drive_dsr_digRQ (b : Bool) : (s.drive (.dsr b)).digRQ = if b && !s.dsr then s.seg else s.digRQ := rfl

@[simp] theorem State.clockReset_params : s.clockReset.params = s.params := by simp [State.clockReset]
@[simp] theorem State.clockReset_armed : s.clockReset.armed = s.armed := by simp [State.clockReset]
@[simp] theorem State.clockReset_passedState : s.clockReset.passedState = s.passedState := by simp [State.clockReset]
@[simp] theorem State.clockReset_count : s.clockReset.count = s.count := by simp [State.clockReset]
@[simp] theorem State.clockReset_phaseCtr : s.clockReset.phaseCtr = s.phaseCtr := by simp [State.clockReset]
@[simp] theorem State.clockReset_raw : s.clockReset.raw = s.raw := by simp [State.clockReset]
@[simp] theorem State.clockReset_rst : s.clockReset.rst = s.rst := by simp [State.clockReset]
@[simp] theorem State.clockReset_cmd : s.clockReset.cmd = s.cmd := by simp [State.clockReset]
@[simp] theorem State.clockReset_cmdValid : s.clockReset.cmdValid = s.cmdValid := by simp [State.clockReset]
@[simp] theorem State.clockReset_cmdReady : s.clockReset.cmdReady = s.cmdReady := by simp [State.clockReset]
@[simp] theorem State.clockReset_rsp : s.clockReset.rsp = s.rsp := by simp [State.clockReset]
@[simp] theorem State.clockReset_rspValid : s.clockReset.rspValid = s.rspValid := by simp [State.clockReset]
@[simp] theorem State.clockReset_draws : s.clockReset.draws = s.draws := by simp [State.clockReset]
@[simp] theorem State.clockReset_rstDuring : s.clockReset.rstDuring = s.rstDuring := by simp [State.clockReset]
@[simp] theorem State.clockReset_inputs : s.clockReset.inputs = s.inputs := by simp [State.clockReset]
@[simp] theorem State.clockReset_coil : s.clockReset.coil = s.coil := by simp [State.clockReset]
@[simp] theorem State.clockReset_dcm : s.clockReset.dcm = s.dcm := by simp [State.clockReset]
@[simp] theorem State.clockReset_seg : s.clockReset.seg = s.seg := by simp [State.clockReset]
@[simp] theorem State.clockReset_dsl : s.clockReset.dsl = s.dsl := by simp [State.clockReset]
@[simp] theorem State.clockReset_dsr : s.clockReset.dsr = s.dsr := by simp [State.clockReset]
@[simp] theorem State.clockReset_digLQ : s.clockReset.digLQ = s.digLQ := by simp [State.clockReset]
@[simp] theorem State.clockReset_digRQ : s.clockReset.digRQ = s.digRQ := by simp [State.clockReset]
@[simp] theorem State.clockReset_bclk : s.clockReset.bclk = false := rfl
@[simp] theorem State.clockReset_trace :
    s.clockReset.trace = s.trace ++ [.wait .clk, .write (.bclk true), .write (.bclk false)] := by
  simp [State.clockReset, State.writeEvents]

end Sys2Proof.Machine
end

