-- ==== Sys2Proof/Laws/Ops.lean ====
section
/-! SUPPORT. What each shared operation does, said once. -/

namespace Sys2Proof.Machine

/-! Samples and waits. -/

theorem State.wait_eq (d : Delay) (s : State) : s.wait d = s.log (.wait d) := rfl

theorem State.active_fst (l : Line) (s : State) : (s.active l).1 = (s.raw.get l == polarity l) := rfl

theorem State.active_snd (l : Line) (s : State) : (s.active l).2 = s.log (.sample l (s.raw.get l)) := rfl

/-! Drives. -/

theorem State.drive_coil (v : Nibble) (s : State) :
    s.drive (.coil v) = { s with coil := v, trace := s.trace ++ [.write (.coil v)] } := rfl

theorem State.drive_dcm (v : Nat) (s : State) :
    s.drive (.dcm v) = { s with
      dcm := v % 2 ^ s.params.ndc
      trace := s.trace ++ if s.params.ndc = 0 then [] else [.write (.dcm (v % 2 ^ s.params.ndc))] } := rfl

theorem State.drive_seg (v : Byte) (s : State) :
    s.drive (.seg v) = { s with seg := v, trace := s.trace ++ [.write (.seg v)] } := rfl

theorem State.drive_bclk_rise (s : State) (h : s.bclk = false) :
    s.drive (.bclk true) = { s with
      bclk := true, coilQ := s.coil, dcmQ := s.dcm, trace := s.trace ++ [.write (.bclk true)] } := by
  simp [State.drive, State.setPort, State.writeEvents, h]

theorem State.drive_bclk_fall (s : State) :
    s.drive (.bclk false) = { s with bclk := false, trace := s.trace ++ [.write (.bclk false)] } := by
  simp [State.drive, State.setPort, State.writeEvents]

theorem State.drive_dsl_rise (s : State) (h : s.dsl = false) :
    s.drive (.dsl true) = { s with dsl := true, digLQ := s.seg, trace := s.trace ++ [.write (.dsl true)] } := by
  simp [State.drive, State.setPort, State.writeEvents, h]

theorem State.drive_dsl_fall (s : State) :
    s.drive (.dsl false) = { s with dsl := false, trace := s.trace ++ [.write (.dsl false)] } := by
  simp [State.drive, State.setPort, State.writeEvents]

theorem State.drive_dsr_rise (s : State) (h : s.dsr = false) :
    s.drive (.dsr true) = { s with dsr := true, digRQ := s.seg, trace := s.trace ++ [.write (.dsr true)] } := by
  simp [State.drive, State.setPort, State.writeEvents, h]

theorem State.drive_dsr_fall (s : State) :
    s.drive (.dsr false) = { s with dsr := false, trace := s.trace ++ [.write (.dsr false)] } := by
  simp [State.drive, State.setPort, State.writeEvents]

/-- The DC-motor lines and their latch stay within NDC bits under any drive. -/
theorem State.drive_dcm_width (d : Drive) (s : State) (h : s.dcm < 2 ^ s.params.ndc) (hq : s.dcmQ < 2 ^ s.params.ndc) :
    (s.drive d).dcm < 2 ^ (s.drive d).params.ndc ∧ (s.drive d).dcmQ < 2 ^ (s.drive d).params.ndc := by
  cases d with
  | dcm v => exact ⟨Nat.mod_lt _ (Nat.two_pow_pos _), hq⟩
  | bclk b =>
    refine ⟨h, ?_⟩
    show (if b && !s.bclk then s.dcm else s.dcmQ) < _
    split
    · exact h
    · exact hq
  | coil v => exact ⟨h, hq⟩
  | seg v => exact ⟨h, hq⟩
  | dsl b => exact ⟨h, hq⟩
  | dsr b => exact ⟨h, hq⟩

/-- The clock-reset sequence from BCLK low (R140). -/
theorem State.clockReset_of_low (s : State) (h : s.bclk = false) :
    s.clockReset = { s with
      bclk := false, coilQ := s.coil, dcmQ := s.dcm
      trace := s.trace ++ [.wait .clk, .write (.bclk true), .write (.bclk false)] } := by
  have hw : (s.wait .clk).bclk = false := h
  rw [State.clockReset, State.drive_bclk_rise _ hw, State.drive_bclk_fall]
  simp [State.wait, State.log]

/-! The Edge step. -/

theorem armedAfter_eq (a m : Bool) : armedAfter a m = !a := by cases a <;> cases m <;> rfl

/-- The Edge step whole (R112, R113). -/
theorem State.edge_eq (l : Line) (s : State) :
    s.edge l = ((s.raw.get l == polarity l) && s.armed.get l,
      { s with
        armed := s.armed.set l (!(s.raw.get l == polarity l))
        passedState := if l = .photo then (s.raw.get l == polarity l) else s.passedState
        trace := s.trace ++ [.wait .deb, .sample l (s.raw.get l)] }) := by
  simp [State.edge, State.active, State.sample, State.wait, State.log, edgeResult, armedAfter_eq]

/-- The Rotation Counter inside the domain (R116, R118). -/
theorem countStep_eq (e : Bool) (count thr : Byte) :
    countStep e count thr =
      (e && decide (count.toNat + 1 = thr.toNat),
        if e then (if count.toNat + 1 = thr.toNat then 0#8 else count + 1#8) else count) := by
  have h : BitVec.ofNat 8 (count.toNat + 1) = count + 1#8 := by
    apply BitVec.eq_of_toNat_eq
    simp
  cases e
  · simp [countStep]
  · by_cases hc : count.toNat + 1 = thr.toNat <;> simp [countStep, hc, h]

/-- The poll with a threshold, inside its domain (R116). -/
theorem pollThreshold_next (thr : Byte) (s : State) (h : s.count.toNat < thr.toNat) :
    pollThreshold thr s = .next (({ (s.edge .photo).2 with
      count := (countStep (s.edge .photo).1 s.count thr).2 } : State).ret
        (boolByte (countStep (s.edge .photo).1 s.count thr).1)) := by
  have h0 : thr ≠ 0#8 := by
    rintro rfl
    simp at h
  simp [pollThreshold, h0, Nat.not_le.mpr h]

/-- The poll with a threshold, outside its domain (R120). -/
theorem pollThreshold_refused (thr : Byte) (s : State) (h : ¬ s.count.toNat < thr.toNat) :
    pollThreshold thr s = .refused .thresholdZero ∨ pollThreshold thr s = .refused .countNotBelowThreshold := by
  unfold pollThreshold
  split
  · exact .inl rfl
  · exact .inr (if_pos (Nat.not_lt.mp h))

/-! Digits. -/

theorem digitEntry_of_le (pr : Params) (d : BitVec 4) (h : d.toNat < 10) : digitEntry pr d = some pr.segTable[d.toNat] := by
  simp [digitEntry, h]

theorem digitEntry_of_gt (pr : Params) (d : BitVec 4) (h : 10 ≤ d.toNat) : digitEntry pr d = none := by
  simp [digitEntry, h]

theorem boolByte_lsb (b : Bool) : (boolByte b).getLsbD 0 = b := by cases b <;> rfl

/-! Phases. -/

theorem storedPhase_nextPhase (c : BitVec 2) : storedPhase (nextPhase c) = c + 1#2 := by
  apply BitVec.eq_of_toNat_eq
  simp [storedPhase, nextPhase]

end Sys2Proof.Machine
end

