-- ==== Sys2Proof/Laws/Exec.lean ====
section
/-! SUPPORT. Everything an operation that completes can do, said once, and what none of them does. -/

namespace Sys2Proof.Machine

/-- A poll with a threshold that completes is inside its domain (R116, R120). -/
theorem pollThreshold_inv (thr : Byte) (s t : State) (h : pollThreshold thr s = .next t) :
    s.count.toNat < thr.toNat ∧ t = ({ (s.edge .photo).2 with
      count := (countStep (s.edge .photo).1 s.count thr).2 } : State).ret
        (boolByte (countStep (s.edge .photo).1 s.count thr).1) := by
  by_cases hd : s.count.toNat < thr.toNat
  · rw [pollThreshold_next thr s hd] at h
    injection h with h; exact ⟨hd, h.symm⟩
  · rcases pollThreshold_refused thr s hd with h' | h' <;> simp [h'] at h

/-- The states an operation can end in. -/
theorem exec_inv (i : Instr) (s t : State) (h : exec i s = .next t) :
    (∃ l, i = .level l ∧ t = (s.active l).2.ret (boolByte (s.active l).1)) ∨
    (∃ l, l ≠ .photo ∧ i = .poll l ∧ t = (s.edge l).2.ret (boolByte (s.edge l).1)) ∨
    (∃ thr, (i = .pollt thr ∨ (i = .poll .photo ∧ thr = 1#8)) ∧ s.count.toNat < thr.toNat ∧
      t = ({ (s.edge .photo).2 with
        count := (countStep (s.edge .photo).1 s.count thr).2 } : State).ret
          (boolByte (countStep (s.edge .photo).1 s.count thr).1)) ∨
    (∃ rev, i = .step rev ∧
      t = ((((({ s with phaseCtr := storedPhase (nextPhase s.phaseCtr) }.drive
        (.coil (stepPattern s.params rev (nextPhase s.phaseCtr)))).drive (.dcm 0))).clockReset.wait .step).ret 0#8)) ∨
    (i = .stop ∧ t = (s.drive (.coil 0#4)).clockReset.ret 0#8) ∨
    (∃ lp rp ld rd, i = .refresh lp rp ld rd ∧
      t = (((s.strobeLeft (busVal s.params lp ld)).wait .bus).strobeRight (busVal s.params rp rd)).ret 0#8) ∨
    (∃ d, i = .digit d ∧
      ((∃ v, digitEntry s.params d = some v ∧ t = s.ret v) ∨
        (digitEntry s.params d = none ∧ t = s.drawByte.2.ret s.drawByte.1))) := by
  cases i with
  | level l => injection h with h; exact .inl ⟨l, rfl, h.symm⟩
  | poll l =>
    cases l
    · injection h with h; exact .inr (.inl ⟨_, by decide, rfl, h.symm⟩)
    · injection h with h; exact .inr (.inl ⟨_, by decide, rfl, h.symm⟩)
    · injection h with h; exact .inr (.inl ⟨_, by decide, rfl, h.symm⟩)
    · obtain ⟨h1, h2⟩ := pollThreshold_inv 1#8 s t h
      exact .inr (.inr (.inl ⟨1#8, .inr ⟨rfl, rfl⟩, h1, h2⟩))
  | pollt thr =>
      obtain ⟨h1, h2⟩ := pollThreshold_inv _ s t h
      exact .inr (.inr (.inl ⟨thr, .inl rfl, h1, h2⟩))
  | step rev =>
    simp only [exec, execStep, Host.Outcome.next.injEq] at h
    exact .inr (.inr (.inr (.inl ⟨rev, rfl, h.symm⟩)))
  | stop =>
    simp only [exec, execStop, Host.Outcome.next.injEq] at h
    exact .inr (.inr (.inr (.inr (.inl ⟨rfl, h.symm⟩))))
  | refresh lp rp ld rd =>
    simp only [exec, execRefresh, Host.Outcome.next.injEq] at h
    exact .inr (.inr (.inr (.inr (.inr (.inl ⟨lp, rp, ld, rd, rfl, h.symm⟩)))))
  | digit d =>
    simp only [exec, execDigit] at h
    refine .inr (.inr (.inr (.inr (.inr (.inr ⟨d, rfl, ?_⟩)))))
    split at h <;> rename_i hd <;> injection h with h
    · exact .inl ⟨_, hd, h.symm⟩
    · exact .inr ⟨hd, h.symm⟩

/-- No operation writes the parameters, an input port or the plan of moves. -/
theorem exec_surroundings (i : Instr) (s t : State) (h : exec i s = .next t) : SameSurroundings s t := by
  rcases exec_inv i s t h with ⟨l, -, rfl⟩ | ⟨l, -, -, rfl⟩ | ⟨thr, -, -, rfl⟩ | ⟨rev, -, rfl⟩ | ⟨-, rfl⟩ |
    ⟨lp, rp, ld, rd, -, rfl⟩ | ⟨d, -, ⟨v, -, rfl⟩ | ⟨-, rfl⟩⟩
  all_goals simp [SameSurroundings, State.edge_eq, State.strobeLeft, State.strobeRight, State.drawByte]

/-- LEVEL, POLL, POLLT and DIGIT write no port (R59, R176). -/
theorem exec_input_writes_nothing (i : Instr) (s t : State)
    (hi : (∃ l, i = .level l) ∨ (∃ l, i = .poll l) ∨ (∃ thr, i = .pollt thr) ∨ ∃ d, i = .digit d)
    (h : exec i s = .next t) (d : Drive) : Event.write d ∉ t.trace.drop s.trace.length := by
  rcases exec_inv i s t h with ⟨l, -, rfl⟩ | ⟨l, -, -, rfl⟩ | ⟨thr, -, -, rfl⟩ | ⟨rev, rfl, -⟩ | ⟨rfl, -⟩ |
    ⟨lp, rp, ld, rd, rfl, -⟩ | ⟨d, -, ⟨v, -, rfl⟩ | ⟨-, rfl⟩⟩
  all_goals first | (simp at hi) | simp [State.edge_eq, State.drawByte]

/-- An operation only appends to the trace (R58). -/
theorem exec_appends_to_trace (i : Instr) (s t : State) (h : exec i s = .next t) : ∃ es, t.trace = s.trace ++ es := by
  rcases exec_inv i s t h with ⟨l, -, rfl⟩ | ⟨l, -, -, rfl⟩ | ⟨thr, -, -, rfl⟩ | ⟨rev, -, rfl⟩ | ⟨-, rfl⟩ |
    ⟨lp, rp, ld, rd, -, rfl⟩ | ⟨d, -, ⟨v, -, rfl⟩ | ⟨-, rfl⟩⟩
  all_goals simp [State.edge_eq, State.strobeLeft, State.strobeRight, State.drawByte]

theorem levelOf_active (l : Line) (a : Bool) : (levelOf l a == polarity l) = a := by cases l <;> cases a <;> rfl

/-- The polarity table gives the activity of each line (R8, R53). -/
theorem active_level_eq (s : State) (l : Line) : (s.raw.get l == polarity l) = activityOf s l := by
  cases l <;> simp [LineBits.get, polarity, activityOf]

/-- The phase arithmetic and the pattern choice, put together (R142 to R144). -/
theorem stepPattern_eq (pr : Params) (rev : Bool) (c : BitVec 2) :
    stepPattern pr rev (nextPhase c) = patternFrom pr rev c := by
  have h : ∀ c : BitVec 2, c = 0#2 ∨ c = 1#2 ∨ c = 2#2 ∨ c = 3#2 := by decide
  rcases h c with rfl | rfl | rfl | rfl <;> cases rev <;> rfl

theorem stepPattern_mem (pr : Params) (rev : Bool) (p : Nat) : stepPattern pr rev p ∈ pr.coilPat := by
  unfold stepPattern coilPattern
  split <;> simp

end Sys2Proof.Machine
end

