-- ==== Sys2Proof/Laws/PerInstr.lean ====
section
/-! SUPPORT. A fact of every operation as syntax, one lemma per constructor: the top four bits of its word are the opcode of its row,
one of 0x1 to 0x7 (spec/30_encoding.md R88), so no operation's word is reserved by its opcode (R94). -/

namespace Sys2Proof.Laws.OpField

/-- The `op` column of R88. -/
def number (i : Instr) : BitVec 4 :=
  match i with
  | .level _ => 0x1#4
  | .poll _ => 0x2#4
  | .pollt _ => 0x3#4
  | .step _ => 0x4#4
  | .stop => 0x5#4
  | .refresh _ _ _ _ => 0x6#4
  | .digit _ => 0x7#4

/-- Bits 23..20 of the operation's word hold its opcode, which is neither 0 nor above 7. -/
def Statement (i : Instr) : Prop := opField (encode i) = number i ∧ number i ≠ 0#4 ∧ number i < 8#4

end Sys2Proof.Laws.OpField

namespace Sys2Proof.Laws.OpField

theorem level (line : Line) : Statement (.level line) := by
  cases line <;> unfold Statement <;> decide

theorem poll (line : Line) : Statement (.poll line) := by
  cases line <;> unfold Statement <;> decide

theorem pollt (thr : Byte) : Statement (.pollt thr) := by
  refine ⟨?_, by simp [number], by simp [number]⟩
  apply BitVec.eq_of_getLsbD_eq
  intro i hi
  simp only [opField, encode, number, BitVec.getLsbD_extractLsb', BitVec.getLsbD_append]
  interval_cases i <;> simp

theorem step (rev : Bool) : Statement (.step rev) := by
  cases rev <;> unfold Statement <;> decide

theorem stop : Statement .stop := by
  unfold Statement
  decide

theorem refresh (lp rp : Byte) (ld rd : Bool) : Statement (.refresh lp rp ld rd) := by
  refine ⟨?_, by simp [number], by simp [number]⟩
  apply BitVec.eq_of_getLsbD_eq
  intro i hi
  simp only [opField, encode, number, BitVec.getLsbD_extractLsb', BitVec.getLsbD_append]
  interval_cases i <;> simp

theorem digit (d : BitVec 4) : Statement (.digit d) := by
  refine ⟨?_, by simp [number], by simp [number]⟩
  apply BitVec.eq_of_getLsbD_eq
  intro i hi
  simp only [opField, encode, number, BitVec.getLsbD_extractLsb', BitVec.getLsbD_append]
  interval_cases i <;> simp

end Sys2Proof.Laws.OpField
end

