-- ==== Sys2Proof/Laws/Step.lean ====
section
/-! SUPPORT. Everything a step can do, said once, and what replaying events keeps. -/

namespace Sys2Proof.Machine

/-- No command is taken when one of the three conditions fails (R32, R230). -/
theorem takesCommand_false (s : State) (h : s.cmdValid = false ∨ s.cmdReady = false ∨ s.rst = true) :
    s.takesCommand = false := by
  rcases h with h | h | h <;> simp [State.takesCommand, h]

/-- The steps that have a next state: an operation, whole or cut short; nothing; one move. -/
theorem step_inv (s t : State) (h : step s = .next t) :
    (∃ i u, s.takesCommand = true ∧ decode s.cmd = .ok i ∧ exec i s.accept = .next u ∧
      ((s.rstDuring = none ∧ t = u) ∨ ∃ k, s.rstDuring = some k ∧ t = abandon k s.accept u)) ∨
    (s.takesCommand = false ∧ s.inputs = [] ∧ t = { s with rspValid := false }) ∨
    (∃ i rest, s.takesCommand = false ∧ s.inputs = i :: rest ∧
      takeInput i { s with inputs := rest, rspValid := false } = .next t) := by
  unfold step at h
  split at h
  · rename_i ht
    unfold runCommand at h
    split at h
    · rename_i i hi
      cases he : exec i s.accept with
      | next u =>
        refine .inl ⟨i, u, ht, hi, he, ?_⟩
        rw [he] at h
        simp only [finish] at h
        split at h <;> rename_i hk <;> injection h with h
        · exact .inl ⟨hk, h.symm⟩
        · exact .inr ⟨_, hk, h.symm⟩
      | fault f => rw [he] at h; simp [finish] at h
      | refused f => rw [he] at h; simp [finish] at h
    · simp at h
  · rename_i ht
    unfold waitForCommand at h
    split at h
    · injection h with h; exact .inr (.inl ⟨by simpa using ht, by assumption, h.symm⟩)
    · exact .inr (.inr ⟨_, _, by simpa using ht, by assumption, h⟩)

/-- A transferred operation in which reset is planned to rise is abandoned at that point. -/
theorem step_cut_short (s u : State) (i : Instr) (k : Nat) (ht : s.takesCommand = true) (hk : s.rstDuring = some k)
    (hi : decode s.cmd = .ok i) (he : exec i s.accept = .next u) : step s = .next (abandon k s.accept u) := by
  simp [step, ht, runCommand, hi, he, finish, hk]

/-- The moves that have a next state. -/
theorem takeInput_inv (i : Input) (s t : State) (h : takeInput i s = .next t) :
    (∃ w, i = .command w ∧ t = s.presentCommand w) ∨ (∃ l b, i = .rawLevel l b ∧ t = s.presentLevel l b) ∨
    (∃ b, i = .rst b ∧ t = s.driveRst b) ∨ (∃ k, i = .rstDuring k ∧ t = { s with rstDuring := some k }) ∨
    (∃ p, i = .dcMotor p ∧ s.rst = false ∧ t = s.externalDrive p) := by
  cases i with
  | command w => injection h with h; exact .inl ⟨w, rfl, h.symm⟩
  | rawLevel l b => injection h with h; exact .inr (.inl ⟨l, b, rfl, h.symm⟩)
  | rst b => injection h with h; exact .inr (.inr (.inl ⟨b, rfl, h.symm⟩))
  | rstDuring k => injection h with h; exact .inr (.inr (.inr (.inl ⟨k, rfl, h.symm⟩)))
  | dcMotor p =>
    simp only [takeInput] at h
    split at h
    · cases h
    · injection h with h; exact .inr (.inr (.inr (.inr ⟨p, rfl, by rename_i hr; simpa using hr, h.symm⟩)))

/-- Replaying events keeps the parameters and the width of the DC-motor latch. -/
theorem replay_keeps_dcmQ_width (es : List Event) : ∀ (s : State), s.dcm < 2 ^ s.params.ndc → s.dcmQ < 2 ^ s.params.ndc →
    (es.foldl State.replay s).params = s.params ∧ (es.foldl State.replay s).dcmQ < 2 ^ s.params.ndc := by
  induction es with
  | nil => intro s h1 h2; exact ⟨rfl, h2⟩
  | cons e es ih =>
    intro s h1 h2
    cases e with
    | write d =>
      obtain ⟨a, b⟩ := State.drive_dcm_width d s h1 h2
      obtain ⟨c, e⟩ := ih (s.drive d) a b
      simp at c e
      exact ⟨c, e⟩
    | sample l b => exact ih _ h1 h2
    | wait d => exact ih _ h1 h2

/-- Replaying events of which none is a write does nothing but append them to the trace. -/
theorem replay_without_writes (es : List Event) : ∀ (s : State), (∀ d, Event.write d ∉ es) →
    es.foldl State.replay s = { s with trace := s.trace ++ es } := by
  induction es with
  | nil => intro s _; simp
  | cons e es ih =>
    intro s h
    rw [List.foldl_cons, ih _ fun d hd => h d (List.mem_cons_of_mem _ hd)]
    cases e with
    | write d => exact absurd List.mem_cons_self (h d)
    | sample l b => simp [State.replay, State.log]
    | wait d => simp [State.replay, State.log]

/-- Replaying events keeps the parameters and only appends to the trace. -/
theorem replay_keeps_params (es : List Event) : ∀ (s : State),
    (es.foldl State.replay s).params = s.params ∧ ∃ x, (es.foldl State.replay s).trace = s.trace ++ x := by
  induction es with
  | nil => intro s; exact ⟨rfl, [], by simp⟩
  | cons e es ih =>
    intro s
    obtain ⟨h1, x, h2⟩ := ih (s.replay e)
    simp only [List.foldl_cons, h1, h2]
    cases e <;> simp [State.replay]

end Sys2Proof.Machine
end

