-- ==== Sys2Proof/Tests/Slice0.lean ====
section
/-! SUPPORT. The model's own tests. Expected results come from spec/95_test_vectors.md (vector names in the comments) or from the
examples in the rules; tables are the defaults of spec/00_scope.md R7 unless a test says otherwise. Then one witness per statement
that has hypotheses. -/

namespace Sys2Proof.Tests

open Sys2Proof.Machine

/-- The state after one step that runs the word `w`; `s` itself where there is none. -/
def after (w : Nat) (s : State) : State :=
  match step (s.withFetchWord 24 w) with
  | .next t => t
  | .fault _ => s
  | .refused _ => s

/-- The step that runs the word `w` is refused for this reason. -/
def refusedFor (w : Nat) (s : State) (r : Refusal) : Bool :=
  match step (s.withFetchWord 24 w) with
  | .next _ => false
  | .fault _ => false
  | .refused q => q == r

/-- The operation answers a next state. -/
def runs (i : Instr) (s : State) : Bool :=
  match exec i s with
  | .next _ => true
  | .fault _ => false
  | .refused _ => false

theorem runs_iff (i : Instr) (s : State) (h : runs i s = true) : ∃ t, exec i s = .next t := by
  unfold runs at h
  split at h
  · exact ⟨_, by assumption⟩
  · cases h
  · cases h

/-- A state with the raw lines at the four levels. -/
def rawAt (toggle tactA tactB photo : Bool) : State := { State.reset with raw := ⟨toggle, tactA, tactB, photo⟩ }

/-! ## Well-formedness: one ill-formed term for each check (R7, R80) -/

theorem test_default_parameters_are_well_formed : Params.byDefault.wellFormed = true := by decide
theorem test_two_hot_table_is_well_formed :
    Params.wellFormed { Params.byDefault with coilPat := #v[0b0011#4, 0b0110#4, 0b1100#4, 0b1001#4] } = true := by decide
theorem test_repeated_coil_pattern_is_refused :
    Params.coilsDistinct { Params.byDefault with coilPat := #v[1#4, 2#4, 4#4, 1#4] } = false := by decide
theorem test_mixed_coil_patterns_are_refused :
    Params.coilsHot { Params.byDefault with coilPat := #v[1#4, 2#4, 4#4, 3#4] } = false := by decide
theorem test_dot_bit_in_a_digit_is_refused :
    Params.segClearOfDot { Params.byDefault with dotBit := 0 } = false := by decide
theorem test_empty_segment_table_is_refused :
    Params.othersUsed { Params.byDefault with segTable := Vector.replicate 10 0#8 } = false := by decide
theorem test_pollt_zero_is_outside_the_domain : (Instr.pollt 0#8).inDomain = false := by decide
theorem test_digit_ten_is_outside_the_domain : (Instr.digit 10#4).inDomain = false := by decide

/-! ## Decoding: words of 95_test_vectors section 2.1 -/

theorem test_decode_level_photo : decode 0x100003#24 = .ok (.level .photo) := by decide
theorem test_decode_poll_tactB : decode 0x200002#24 = .ok (.poll .tactB) := by decide
theorem test_decode_pollt_three : decode 0x300003#24 = .ok (.pollt 3#8) := by decide
theorem test_decode_pollt_zero_is_no_reserved_word : decode 0x300000#24 = .ok (.pollt 0#8) := by decide
theorem test_decode_step_forward : decode 0x400000#24 = .ok (.step false) := by decide
theorem test_decode_stop : decode 0x500000#24 = .ok .stop := by decide
/-- The bit check of section 2.1: 0110 00 0 1 01001111 00000111. -/
theorem test_decode_refresh_bits :
    decode 0b011000010100111100000111#24 = .ok (.refresh 0x4F#8 0x07#8 false true) := by decide
theorem test_decode_refresh_both_dots : decode 0x633F3F#24 = .ok (.refresh 0x3F#8 0x3F#8 true true) := by decide
theorem test_decode_digit_nine : decode 0x700009#24 = .ok (.digit 9#4) := by decide
theorem test_decode_reserved_words :
    [0x000000#24, 0x800000#24, 0xF00000#24].map decode = List.replicate 3 (.error .reservedOpcode) := by decide
theorem test_decode_padding_words :
    [0x100004#24, 0x200010#24, 0x300100#24, 0x400002#24, 0x500001#24, 0x640000#24, 0x700010#24].map decode =
      List.replicate 7 (.error .nonzeroPadding) := by decide
theorem test_encode_refresh : encode (.refresh 0x80#8 0x00#8 true false) = 0x628000#24 := by decide
theorem test_table_word : decodeTableWord 24 0x614F07 = some (.refresh 0x4F#8 0x07#8 false true) := by decide
theorem test_assemble_refresh_num :
    encode (assemble Params.byDefault (.refresh (.num 3) (.num 7) none (some true))) = 0x614F07#24 := by decide

/-! ## Edge Detector -/

/-- Section 2.2: raw[0] = 1 is active on the toggle line, raw[1] = 1 is inactive on a tact line. -/
theorem test_level_polarity :
    (after 0x100000 (rawAt true true false false)).rsp = 1#8 ∧ (after 0x100001 (rawAt true true false false)).rsp = 0#8 := by decide
/-- E6: LEVEL of a pressed switch returns 1 and does not disarm it. -/
theorem test_level_does_not_disarm :
    (after 0x100001 (rawAt false false false false)).rsp = 1#8 ∧
      (after 0x100001 (rawAt false false false false)).armed.tactA = true := by decide
/-- E2, polls 1 and 2: a line active at reset gives one edge, then is held. -/
theorem test_poll_edge_then_held :
    (after 0x200000 (rawAt true false false false)).rsp = 1#8 ∧
      (after 0x200000 (after 0x200000 (rawAt true false false false))).rsp = 0#8 := by decide
/-- T7: POLL PHOTO with `count = 0` and the beam broken. -/
theorem test_poll_photo :
    (after 0x200003 (rawAt false false false false)).rsp = 1#8 ∧
      (after 0x200003 (rawAt false false false false)).passedState = true := by decide
/-- The example of R116. -/
theorem test_pollt_reaches_threshold :
    (after 0x300003 { State.reset with count := 2#8 }).rsp = 1#8 ∧
      (after 0x300003 { State.reset with count := 2#8 }).count = 0#8 := by decide
/-- T4 and T6. -/
theorem test_pollt_top_of_byte_and_domain :
    (after 0x3000FF { State.reset with count := 253#8 }).count = 254#8 ∧
      refusedFor 0x300002 { State.reset with count := 2#8 } .countNotBelowThreshold = true := by decide

/-! ## Phase Sequencer -/

/-- The examples of R142: phase 4 forward, and phase 2 reverse. -/
theorem test_step_examples :
    (after 0x400000 { State.reset with phaseCtr := 3#2 }).coilQ = 0b1000#4 ∧
      (after 0x400001 { State.reset with phaseCtr := 1#2 }).coilQ = 0b1000#4 := by decide
/-- S8: a two-hot table; S7: STEP zeroes the DC-motor lines. -/
theorem test_step_other_table_and_dc_lines :
    (after 0x400001 { State.reset with
      params := { Params.byDefault with coilPat := #v[0b0011#4, 0b0110#4, 0b1100#4, 0b1001#4] }, phaseCtr := 1#2 }).coilQ
        = 0b1001#4 ∧ (after 0x400000 { State.reset with dcm := 2, dcmQ := 2 }).dcmQ = 0 := by decide
/-- S5: STOP keeps the phase and the next STEP emits phase 3. -/
theorem test_stop_keeps_the_phase :
    (after 0x400000 (after 0x500000 { State.reset with phaseCtr := 2#2 })).coilQ = 0b0100#4 := by decide
/-- S7: STOP does not drive DCM, and commits it as it stands. -/
theorem test_stop_commits_dcm : (after 0x500000 { State.reset with dcm := 1 }).dcmQ = 1 := by decide

/-! ## Display Refresher -/

/-- X5. -/
theorem test_refresh_right_dot :
    (after 0x614F07 State.reset).digLQ = 0x4F#8 ∧ (after 0x614F07 State.reset).digRQ = 0x87#8 := by decide
/-- R4 of section 2.6: OR, not addition. -/
theorem test_refresh_ors_the_dot : (after 0x628000 State.reset).digLQ = 0x80#8 := by decide
/-- R7 of section 2.6. -/
theorem test_digit_three : (after 0x700003 State.reset).rsp = 0x4F#8 := by decide
/-- U1: a digit outside the table completes. -/
theorem test_digit_fifteen_completes :
    (after 0x70000F State.reset).rspValid = true ∧ (after 0x70000F State.reset).draws = 1 := by decide
/-- R8 of section 2.6: SHOWDEC 37. -/
theorem test_showdec_thirty_seven :
    (match showDec 37 State.reset with
      | .next t => t.digLQ == 0x4F#8 && t.digRQ == 0x07#8
      | .fault _ => false
      | .refused _ => false) = true := by decide

/-! ## The step -/

theorem test_reserved_word_is_refused : refusedFor 0x000000 State.reset (.reservedCommand .reservedOpcode) = true := by decide
/-- R204 (c), R237: reset after the third event of a STEP leaves the coil latch, after the fourth the pattern is in it. -/
theorem test_reset_inside_a_step :
    (abandon 4 State.reset (after 0x400000 State.reset)).coilQ = 0b0001#4 ∧
      (abandon 3 { State.reset with coilQ := 0b1010#4 } (after 0x400000 { State.reset with coilQ := 0b1010#4 })).coilQ =
        0b1010#4 := by decide

/-! ## Witnesses: for each statement with hypotheses, a state and operands that meet them all -/

/-- The state with a word on the command port. -/
def given (w : Nat) : State := State.reset.withFetchWord 24 w

/-- The same with reset planned after `k` events. -/
def cutAt (k w : Nat) : State := { given w with rstDuring := some k }

/-- The state with one move to come. -/
def withMove (i : Input) : State := { State.reset with inputs := [i] }

theorem witness_EncodeOfDecode : decode 0x700009#24 = .ok (.digit 9#4) := by decide
theorem witness_DecodeAcceptsExactlyTheRows : 0x500000#24 &&& opcodeMask .stop = opcodeMatch .stop := by decide
theorem witness_StepRunsTheDecodedCommand :
    (given 0x400001).cmdValid = true ∧ (given 0x400001).cmdReady = true ∧ (given 0x400001).rst = false ∧
      (given 0x400001).rstDuring = none ∧ decode (given 0x400001).cmd = .ok (.step true) := by decide
theorem witness_StepRefusesReservedWords :
    (given 0).cmdValid = true ∧ (given 0).cmdReady = true ∧ (given 0).rst = false ∧
      decode (given 0).cmd = .error .reservedOpcode := by decide
theorem witness_IdleStepOnlyDropsTheResponse : State.reset.cmdValid = false ∧ State.reset.inputs = [] := by decide
theorem witness_IdleStepOnlyDropsTheResponse_in_reset :
    (given 0x400001).rstRise.cmdValid = true ∧ (given 0x400001).rstRise.rst = true ∧ (given 0x400001).rstRise.inputs = [] := by
  decide
theorem witness_MovesOfCallerAndEnvironment_command :
    (withMove (.command 0x500000#24)).cmdValid = false ∧ (withMove (.command 0x500000#24)).inputs = [.command 0x500000#24] := by
  decide
theorem witness_MovesOfCallerAndEnvironment_rawLevel :
    (withMove (.rawLevel .photo true)).cmdValid = false ∧ (withMove (.rawLevel .photo true)).inputs = [.rawLevel .photo true] := by
  decide
theorem witness_MovesOfCallerAndEnvironment_rstDuring :
    (withMove (.rstDuring 0)).cmdValid = false ∧ (withMove (.rstDuring 0)).inputs = [.rstDuring 0] := by decide
theorem witness_MovesOfCallerAndEnvironment_notReady :
    (withMove (.rstDuring 0)).rstRise.cmdReady = false ∧ (withMove (.rstDuring 0)).rstRise.rst = true ∧
      (withMove (.rstDuring 0)).rstRise.inputs = [.rstDuring 0] := by decide
theorem witness_ResetLineRises :
    (withMove (.rst true)).cmdValid = false ∧ (withMove (.rst true)).inputs = [.rst true] := by decide
theorem witness_ResetLineFalls :
    (withMove (.rst false)).rstRise.rst = true ∧ (withMove (.rst false)).rstRise.inputs = [.rst false] := by decide
/-- The conditions under which a command is transferred and reset cuts its operation short. -/
theorem cutAt_is_transferred (k w : Nat) :
    (cutAt k w).cmdValid = true ∧ (cutAt k w).cmdReady = true ∧ (cutAt k w).rst = false ∧ (cutAt k w).rstDuring = some k :=
  ⟨rfl, rfl, rfl, rfl⟩
theorem witness_ResetInsidePhaseSequencerOperation_step :
    (cutAt 3 0x400001).bclk = false ∧ (cutAt 3 0x400001).dcm < 2 ^ (cutAt 3 0x400001).params.ndc ∧ decode (cutAt 3 0x400001).cmd = .ok (.step true) ∧
      0b0001#4 = patternFrom (cutAt 3 0x400001).params true (cutAt 3 0x400001).phaseCtr ∧
      4 = (if (cutAt 3 0x400001).params.ndc = 0 then 3 else 4) := by decide
/-- A build without DC-motor lines. -/
theorem witness_ResetInsidePhaseSequencerOperation_no_motor :
    3 = (if ({ cutAt 3 0x400000 with params := { Params.byDefault with ndc := 0 } } : State).params.ndc = 0 then 3 else 4) ∧
      decode ({ cutAt 3 0x400000 with params := { Params.byDefault with ndc := 0 } } : State).cmd = .ok (.step false) ∧
      ({ cutAt 3 0x400000 with params := { Params.byDefault with ndc := 0 } } : State).bclk = false ∧
      ({ cutAt 3 0x400000 with params := { Params.byDefault with ndc := 0 } } : State).dcm < 2 ^ 0 := by decide
theorem witness_ResetInsidePhaseSequencerOperation_stop :
    (cutAt 3 0x500000).bclk = false ∧ decode (cutAt 3 0x500000).cmd = .ok .stop := by decide
theorem witness_ResetInsideOtherOperations_refresh :
    decode (cutAt 6 0x614F07).cmd = .ok (.refresh 0x4F#8 0x07#8 false true) ∧
      (cutAt 6 0x614F07).dsl = false ∧ (cutAt 6 0x614F07).dsr = false ∧
      0x4F#8 = busVal (cutAt 6 0x614F07).params 0x4F#8 false ∧ 0x87#8 = busVal (cutAt 6 0x614F07).params 0x07#8 true := by
  decide
theorem witness_ResetInsideOtherOperations_level :
    decode (cutAt 0 0x100003).cmd = .ok (.level .photo) ∧ inDomain (.level .photo) (cutAt 0 0x100003) = true := by decide
theorem witness_ResetInsideOtherOperations_poll :
    decode (cutAt 1 0x200003).cmd = .ok (.poll .photo) ∧ inDomain (.poll .photo) (cutAt 1 0x200003) = true := by decide
theorem witness_ResetInsideOtherOperations_pollt :
    decode (cutAt 2 0x3000FF).cmd = .ok (.pollt 255#8) ∧ inDomain (.pollt 255#8) (cutAt 2 0x3000FF) = true := by decide
theorem witness_ResetInsideOtherOperations_digit :
    decode (cutAt 0 0x70000A).cmd = .ok (.digit 10#4) ∧ inDomain (.digit 10#4) (cutAt 0 0x70000A) = true := by decide
/-- R37 (e), R237: a POLL that reset cuts short does not raise BCLK, so the last commit is still the STEP's. -/
theorem test_watch_keeps_the_commit_over_a_cut_poll :
    (Watched.step { st := cutAt 1 0x200000, threshold := none, commit := some .byStep }).map (·.commit) =
      some (some .byStep) := rfl
/-- A STOP cut short after its rising edge (its third event) is the last commit; before it, it is not. -/
theorem test_watch_follows_a_cut_stop :
    (Watched.step { st := cutAt 3 0x500000, threshold := none, commit := some .byStep }).map (·.commit) = some (some .byStop) ∧
      (Watched.step { st := cutAt 2 0x500000, threshold := none, commit := some .byStep }).map (·.commit) =
        some (some .byStep) := ⟨rfl, rfl⟩
theorem witness_ExternalDriverMove :
    (withMove (.dcMotor 2)).inputs = [.dcMotor 2] ∧ (withMove (.dcMotor 2)).cmdValid = false ∧
      (withMove (.dcMotor 2)).rst = false ∧ (withMove (.dcMotor 2)).bclk = false := by decide
theorem witness_ExternalDriverMove_in_reset :
    (withMove (.dcMotor 2)).rstRise.inputs = [.dcMotor 2] ∧ (withMove (.dcMotor 2)).rstRise.rst = true := by decide

/-- The reset state has a next state: the idle one. -/
theorem reset_idles : step State.reset = .next { State.reset with rspValid := false } := rfl

/-- The reset state meets the invariant's conditions. -/
theorem reset_params_and_lines :
    State.reset.params.wellFormed = true ∧ State.reset.dcm < 2 ^ State.reset.params.ndc ∧ State.reset.bclk = false ∧
      State.reset.dsl = false ∧ State.reset.dsr = false ∧ State.reset.passedState = !State.reset.armed.photo := by decide

theorem inv_reset : Inv State.reset :=
  have h := reset_params_and_lines
  { params := h.1
    dcmWidth := h.2.1
    dcmQWidth := Nat.mod_lt _ (by decide)
    beam := h.2.2.2.2.2
    bclkLow := h.2.2.1
    dslLow := h.2.2.2.1
    dsrLow := h.2.2.2.2.1
    ready := rfl
    held := fun hr => by cases hr }

theorem witness_StepKeepsParameters : ∃ t, step State.reset = .next t := ⟨_, reset_idles⟩
theorem witness_StepAppendsToTrace : ∃ t, step State.reset = .next t := ⟨_, reset_idles⟩
theorem witness_StepKeepsInvariant : Inv State.reset ∧ ∃ t, step State.reset = .next t := ⟨inv_reset, _, reset_idles⟩
theorem witness_WatchedStepKeepsInvariant :
    Watched.Inv { st := given 0x400000, threshold := some 3#8, commit := none } ∧
      ∃ w', Watched.step { st := given 0x400000, threshold := some 3#8, commit := none } = some w' := by
  refine ⟨⟨?_, ?_, ?_, ?_, ?_⟩, ⟨_, rfl⟩⟩
  · exact ⟨by decide, by decide, Nat.mod_lt _ (by decide), rfl, rfl, rfl, rfl, rfl, fun h => by cases h⟩
  · intro thr h
    cases h
    decide
  · intro h
    cases h
  · intro h
    cases h
  · intro h
    cases h
theorem witness_ClockLineCommits : State.reset.bclk = false := by decide
theorem witness_DigitSelectCommits : State.reset.dsl = false ∧ State.reset.dsr = false := by decide
theorem witness_ClockResetSequence : State.reset.bclk = false := by decide
theorem witness_WaitsOfEachOperation : ∃ t, exec (.step true) State.reset = .next t := runs_iff _ _ (by decide)
/-- E0: the four rows of the transition table on a tact line (active low). -/
theorem witness_EdgeTransitionTable :
    activityOf (rawAt false true false false) .tactA = false ∧ activityOf (rawAt false false false false) .tactA = true ∧
    (rawAt false false false false).armed.get .tactA = true ∧
    ({ rawAt false false false false with armed := ⟨true, false, true, true⟩ } : State).armed.get .tactA = false := by decide
theorem witness_EdgeTransitionTable_other_line : Line.tactB ≠ Line.tactA ∧ Line.tactA ≠ Line.photo := by decide
theorem witness_PollReturnsTheEdge : Line.toggle ≠ Line.photo := by decide
theorem witness_PollPhotoIsPolltOne : 0 < ({ State.reset with count := 1#8 } : State).count.toNat := by decide
/-- A raw edge that reaches the threshold at its least value, and one that does not below its greatest. -/
theorem witness_PolltCountsRawEdges :
    State.reset.count.toNat < (1#8).toNat ∧ true = (!State.reset.raw.photo) ∧
      true = (true && State.reset.armed.photo) := by decide
theorem witness_PolltCountsRawEdges_top :
    ({ State.reset with count := 253#8 } : State).count.toNat < (255#8).toNat ∧
      true = (!State.reset.raw.photo) ∧ true = (true && State.reset.armed.photo) := by decide
theorem witness_PolltCountsRawEdges_no_edge :
    (rawAt false false false true).count.toNat < (255#8).toNat ∧
      false = (!(rawAt false false false true).raw.photo) ∧
      false = (false && (rawAt false false false true).armed.photo) := by decide
theorem witness_CountSumFitsAByte : (254#8).toNat < (255#8).toNat := by decide
theorem witness_CountStaysBelowThreshold :
    (∃ t, exec (.pollt 1#8) State.reset = .next t) ∧ (∃ t, exec (.poll .photo) State.reset = .next t) ∧
      (∀ thr, Instr.stop ≠ .pollt thr) ∧ Instr.stop ≠ .poll .photo ∧ ∃ t, exec .stop State.reset = .next t :=
  ⟨runs_iff _ _ (by decide), runs_iff _ _ (by decide), (fun _ h => by cases h), (fun h => by cases h), runs_iff _ _ (by decide)⟩
theorem witness_PolltRefusedOutsideDomain :
    (1#8 ≠ 0#8 ∧ (1#8).toNat ≤ ({ State.reset with count := 1#8 } : State).count.toNat) ∧
      (255#8 ≠ 0#8 ∧ (255#8).toNat ≤ ({ State.reset with count := 255#8 } : State).count.toNat) := by decide
theorem witness_OneShotLaw : Line.tactB ≠ Line.photo := by decide
theorem witness_PulseLaw : Line.tactA ≠ Line.photo ∧ State.reset.armed.get .tactA = true := by decide
theorem witness_CountingLaw : 3#8 ≠ 0#8 ∧ State.reset.count = 0#8 := by decide
theorem witness_StepEmitsThePattern :
    State.reset.bclk = false ∧
      0b0001#4 = patternFrom State.reset.params true State.reset.phaseCtr := by decide
theorem witness_StepCycleLaw : State.reset.bclk = false := by decide
theorem witness_FifthStepReturns : State.reset.bclk = false ∧ State.reset.phaseCtr = 0#2 := by decide
theorem witness_CommittedStepIsOneOrTwoHot :
    State.reset.params.wellFormed = true ∧ State.reset.bclk = false ∧ ∃ t, exec (.step false) State.reset = .next t :=
  ⟨by decide, by decide, runs_iff _ _ (by decide)⟩
theorem witness_StopZeroesTheCoils : State.reset.bclk = false := by decide
theorem witness_StepAfterStopResumes : State.reset.bclk = false := by decide
theorem witness_RefreshCommitsBothDigits :
    State.reset.dsl = false ∧ State.reset.dsr = false ∧ 0x4F#8 = busVal State.reset.params 0x4F#8 false ∧
      0x87#8 = busVal State.reset.params 0x07#8 true := by decide
theorem witness_DigitReturnsTheTableEntry : State.reset.params.wellFormed = true := by decide
theorem witness_DigitOutsideTheTable : 10 ≤ (10#4).toNat ∧ 10 ≤ (15#4).toNat := by decide
theorem witness_ShowDecShowsTwoDigits :
    (99 : Fin 160).val < 100 ∧ State.reset.dsl = false ∧ State.reset.dsr = false := by decide
theorem witness_EdgeDetectorFrame :
    (∃ t, exec (.level .photo) State.reset = .next t) ∧ (∃ t, exec (.poll .tactA) State.reset = .next t) ∧
      (∃ t, exec (.pollt 2#8) State.reset = .next t) ∧ Line.tactB ≠ Line.tactA ∧ Line.toggle ≠ Line.photo :=
  ⟨runs_iff _ _ (by decide), runs_iff _ _ (by decide), runs_iff _ _ (by decide), by decide, by decide⟩
theorem witness_PhaseSequencerFrame :
    (∃ t, exec (.step true) State.reset = .next t) ∧ ∃ t, exec .stop State.reset = .next t :=
  ⟨runs_iff _ _ (by decide), runs_iff _ _ (by decide)⟩
theorem witness_DisplayRefresherFrame :
    (∃ t, exec (.refresh 1#8 2#8 false true) State.reset = .next t) ∧ (∃ t, exec (.digit 9#4) State.reset = .next t) ∧
      ∃ t, exec (.digit 10#4) State.reset = .next t :=
  ⟨runs_iff _ _ (by decide), runs_iff _ _ (by decide), runs_iff _ _ (by decide)⟩
theorem witness_ResponseOfEachOperation : ∃ t, exec (.pollt 255#8) State.reset = .next t := runs_iff _ _ (by decide)
theorem witness_OnlyStepAndResetChangeThePhase :
    ∃ t, step (State.reset.withFetchWord 24 0x400001) = .next t ∧
      t.phaseCtr ≠ (State.reset.withFetchWord 24 0x400001).phaseCtr := ⟨_, rfl, by decide⟩
theorem witness_OutputOperationsIgnoreTheSensors : ∃ t, exec (.digit 10#4) State.reset = .next t := runs_iff _ _ (by decide)
theorem witness_EdgeResultsIgnoreOtherUnits :
    SameEdgeDetector State.reset { State.reset with phaseCtr := 3#2 } ∧
      ({ State.reset with phaseCtr := 3#2 } : State).raw = State.reset.raw ∧
      ∃ t, exec (.poll .photo) State.reset = .next t :=
  ⟨⟨rfl, rfl, rfl⟩, rfl, runs_iff _ _ (by decide)⟩

end Sys2Proof.Tests
end

-- Scope of the machine: completion of operations, moves of the caller and the environment (spec/00_scope.md)
namespace Sys2Proof.Machine

/-! ## Which operations complete (R14, R120, R202) -/

/-- The threshold poll completes exactly below its threshold; a threshold of 0 leaves no such count. -/
theorem pollThreshold_completes_iff (thr : Byte) (s : State) :
    (∃ t, pollThreshold thr s = .next t) ↔ s.count.toNat < thr.toNat :=
  ⟨fun ⟨t, h⟩ => (pollThreshold_inv thr s t h).1, fun h => ⟨_, pollThreshold_next thr s h⟩⟩

/-- DIGIT completes for all sixteen operands: with the table's entry or, where there is none, with a free byte. -/
theorem execDigit_completes (d : BitVec 4) (s : State) : ∃ t, execDigit d s = .next t := by
  cases hd : digitEntry s.params d with
  | some v => exact ⟨s.ret v, by simp only [execDigit, hd]⟩
  | none => exact ⟨s.drawByte.2.ret s.drawByte.1, by simp only [execDigit, hd]⟩

/-- Only the two threshold polls (POLL of the photo line is POLLT 1, R115) have a domain to check. -/
theorem exec_completes_iff_inDomain (i : Instr) (s : State) :
    (∃ t, exec i s = .next t) ↔ inDomain i s = true := by
  cases i with
  | pollt thr => exact (pollThreshold_completes_iff thr s).trans decide_eq_true_iff.symm
  | poll l =>
    cases l with
    | photo => exact (pollThreshold_completes_iff 1#8 s).trans decide_eq_true_iff.symm
    | toggle => exact iff_of_true ⟨_, rfl⟩ rfl
    | tactA => exact iff_of_true ⟨_, rfl⟩ rfl
    | tactB => exact iff_of_true ⟨_, rfl⟩ rfl
  | level l => exact iff_of_true ⟨_, rfl⟩ rfl
  | step rev => exact iff_of_true ⟨_, rfl⟩ rfl
  | stop => exact iff_of_true ⟨_, rfl⟩ rfl
  | refresh lp rp ld rd => exact iff_of_true ⟨_, rfl⟩ rfl
  | digit d => exact iff_of_true (execDigit_completes d s) rfl

/-- No operation faults: the block has no fault to raise (R200), the type `Fault` is empty. -/
theorem exec_ne_fault (i : Instr) (s : State) (f : Fault) : exec i s ≠ .fault f := nomatch f

/-- Settles O38: the domain is checked by the threshold polls alone, and there is no fault. -/
theorem execCompletesExactlyInDomain : Obligations.ExecCompletesExactlyInDomain :=
  fun i s => ⟨exec_completes_iff_inDomain i s, exec_ne_fault i s⟩

/-! ## Moves of the caller and the environment (R14, R15, R30) -/

/-- Where no command is taken, a step makes the oldest move to come, an earlier response being gone. -/
theorem step_eq_takeInput {s : State} {i : Input} {rest : List Input}
    (hwait : s.cmdValid = false ∨ s.cmdReady = false ∨ s.rst = true) (hi : s.inputs = i :: rest) :
    step s = takeInput i { s with inputs := rest, rspValid := false } := by
  simp [step, takesCommand_false s hwait, waitForCommand, hi]

/-- Settles O11: each clause is the step's one move, on the port or the plan it names. -/
theorem movesOfCallerAndEnvironment : Obligations.MovesOfCallerAndEnvironment := by
  intro s rest w l b k hwait
  refine ⟨fun hi => ?_, fun hi => ?_, fun hi => ?_⟩
  · rw [step_eq_takeInput hwait hi, takeInput, State.presentCommand]
  · rw [step_eq_takeInput hwait hi, takeInput, State.presentLevel]
  · rw [step_eq_takeInput hwait hi, takeInput]

end Sys2Proof.Machine

-- The state's rules: what the next step runs, commits, frames, and the invariants of R37 (spec/10_state.md)
namespace Sys2Proof.Machine

/-! ## The command port: what the next step runs (R32, R93, R238) -/

theorem takesCommand_iff (s : State) :
    s.takesCommand = true ↔ s.cmdValid = true ∧ s.cmdReady = true ∧ s.rst = false := by
  simp [State.takesCommand, and_assoc]

theorem finish_of_no_reset_planned (s : State) (o : Host.Outcome State Fault Refusal) (h : s.rstDuring = none) :
    finish s o = o := by
  cases o <;> simp only [finish, h]

/-- Settles O7: with no reset planned the end of the operation is as `exec` gives it. -/
theorem stepRunsTheDecodedCommand : Obligations.StepRunsTheDecodedCommand := by
  intro s i hv hr hrst hplan hi
  have ht : s.takesCommand = true := (takesCommand_iff s).2 ⟨hv, hr, hrst⟩
  simp only [step, ht, if_true, runCommand, hi]
  exact finish_of_no_reset_planned s.accept _ hplan

/-- Every row's mask covers bits 23..20, so a word a row selects has the row's opcode there (R88). -/
theorem opField_of_rowSelects {w : CommandWord} {o : Opcode} (h : rowSelects w o = true) :
    opField w = opField (opcodeMatch o) := by
  have hmask : opField (opcodeMask o) = 15#4 := by cases o <;> decide
  have hw : w &&& opcodeMask o = opcodeMatch o := by simpa [rowSelects] using h
  have hand : opField (w &&& opcodeMask o) = opField w &&& opField (opcodeMask o) := BitVec.extractLsb'_and
  rw [← hw, hand, hmask]
  exact (BitVec.and_allOnes).symm

theorem opField_opcodeMatch_injective {o o' : Opcode} (h : opField (opcodeMatch o) = opField (opcodeMatch o')) : o = o' := by
  revert h
  cases o <;> cases o' <;> decide

/-- The decoder answers the operands of the row that selects the word: no earlier row of the table can (R88, R93). -/
theorem decode_of_rowSelects {w : CommandWord} {o : Opcode} (h : rowSelects w o = true) : decode w = .ok (operandsOf o w) := by
  have hmem : o ∈ opcodeRows := by cases o <;> decide
  cases hf : opcodeRows.find? (rowSelects w) with
  | none => exact absurd h (List.find?_eq_none.1 hf o hmem)
  | some o' =>
    have ho : o' = o := opField_opcodeMatch_injective
      ((opField_of_rowSelects (List.find?_some hf)).symm.trans (opField_of_rowSelects h))
    simp only [decode, hf, ho]

/-- The row of an operation (R88). -/
def opcodeOf (i : Instr) : Opcode :=
  match i with
  | .level _ => .level
  | .poll _ => .poll
  | .pollt _ => .pollt
  | .step _ => .step
  | .stop => .stop
  | .refresh _ _ _ _ => .refresh
  | .digit _ => .digit

/-- An operation's word is selected by its row: the mask, cut as the word's fields are, keeps those the row fixes (R88). -/
theorem rowSelects_encode (i : Instr) : rowSelects (encode i) (opcodeOf i) = true := by
  cases i with
  | level l => cases l <;> decide
  | poll l => cases l <;> decide
  | step rev => cases rev <;> decide
  | stop => decide
  | pollt thr =>
    rw [rowSelects, beq_iff_eq]
    change (0x3#4 ++ 0#12 ++ thr) &&& (0xF#4 ++ 0xFFF#12 ++ 0#8) = 0x3#4 ++ 0#12 ++ 0#8
    simp only [BitVec.and_append]
    simp
  | refresh lp rp ld rd =>
    rw [rowSelects, beq_iff_eq]
    change (0x6#4 ++ 0#2 ++ BitVec.ofBool ld ++ BitVec.ofBool rd ++ lp ++ rp) &&&
      (0xF#4 ++ 3#2 ++ 0#1 ++ 0#1 ++ 0#8 ++ 0#8) = 0x6#4 ++ 0#2 ++ 0#1 ++ 0#1 ++ 0#8 ++ 0#8
    simp only [BitVec.and_append]
    simp
  | digit d =>
    rw [rowSelects, beq_iff_eq]
    change (0x7#4 ++ 0#16 ++ d) &&& (0xF#4 ++ 0xFFFF#16 ++ 0#4) = 0x7#4 ++ 0#16 ++ 0#4
    simp only [BitVec.and_append]
    simp

theorem operandsOf_encode (i : Instr) : operandsOf (opcodeOf i) (encode i) = i := by
  cases i with
  | level l => cases l <;> decide
  | poll l => cases l <;> decide
  | step rev => cases rev <;> decide
  | stop => rfl
  | pollt thr =>
    simp only [opcodeOf, operandsOf, encode, Instr.pollt.injEq]
    exact BitVec.extractLsb'_append_eq_right
  | refresh lp rp ld rd =>
    simp only [opcodeOf, operandsOf, encode, Instr.refresh.injEq]
    refine ⟨?_, BitVec.extractLsb'_append_eq_right, ?_, ?_⟩
    · exact (BitVec.extractLsb'_append_eq_of_le (Nat.le_refl 8)).trans BitVec.extractLsb'_append_eq_right
    · rw [BitVec.getLsbD_append, BitVec.getLsbD_append, BitVec.getLsbD_append, BitVec.getLsbD_append]
      simp
    · rw [BitVec.getLsbD_append, BitVec.getLsbD_append, BitVec.getLsbD_append]
      simp
  | digit d =>
    simp only [opcodeOf, operandsOf, encode, Instr.digit.injEq]
    exact BitVec.extractLsb'_append_eq_right

/-- The round trip of R93, for every operation and operand. -/
theorem decode_encode (i : Instr) : decode (encode i) = .ok i := by
  rw [decode_of_rowSelects (rowSelects_encode i), operandsOf_encode]

theorem tableWord_toNat (w : CommandWord) : tableWord 24 w.toNat = w := by
  rw [tableWord, Nat.mod_eq_of_lt w.isLt, BitVec.ofNat_toNat, BitVec.setWidth_eq]

/-- Settles O9: the placed word satisfies every condition of a transfer, and decodes to its operation. -/
theorem placedWordIsRunNext : Obligations.PlacedWordIsRunNext := by
  intro s i
  refine ⟨_, ?_, rfl⟩
  rw [State.withFetchWord, tableWord_toNat]
  exact stepRunsTheDecodedCommand (s.withCommand (encode i)) i rfl rfl rfl rfl (decode_encode i)

/-- Settles O10: no transfer and no move. -/
theorem idleStepOnlyDropsTheResponse : Obligations.IdleStepOnlyDropsTheResponse := by
  intro s hwait hi
  simp [step, takesCommand_false s hwait, waitForCommand, hi]

/-! ## Commits (R35, R36) -/

/-- Settles O23: one drive of the six can commit COIL and DCM. -/
theorem clockLineCommits : Obligations.ClockLineCommits := by
  intro s d
  refine ⟨?_, ?_, fun T => ⟨rfl, rfl⟩, fun l => ⟨rfl, rfl⟩⟩
  · cases d <;> simp
  · cases d <;> simp

/-- Settles O24: for each digit, one drive of the six can commit the segment bus. -/
theorem digitSelectCommits : Obligations.DigitSelectCommits := by
  intro s d
  refine ⟨?_, ?_, fun T => ⟨rfl, rfl⟩, fun l => ⟨rfl, rfl⟩⟩
  · cases d <;> simp
  · cases d <;> simp

/-! ## Frames of the operations (R20, R38, R59) -/

theorem LineBits.get_set_of_ne (v : LineBits) {l l' : Line} (b : Bool) (h : l' ≠ l) : (v.set l b).get l' = v.get l' := by
  cases l <;> cases l' <;> trivial

/-- The Edge step reaches no other unit and draws no byte. -/
theorem State.edge_frame (l : Line) (s : State) :
    SamePhaseSequencer s (s.edge l).2 ∧ SameDisplay s (s.edge l).2 ∧ (s.edge l).2.draws = s.draws := by
  simp [State.edge_eq, SamePhaseSequencer, SameDisplay]

theorem State.edge_armed_get_of_ne (s : State) {l l' : Line} (h : l' ≠ l) : (s.edge l).2.armed.get l' = s.armed.get l' := by
  rw [State.edge_eq]
  exact LineBits.get_set_of_ne s.armed _ h

/-- Settles O54: the Edge step writes its own line's bit, `passed_state` and `count` alone. -/
theorem edgeDetectorFrame : Obligations.EdgeDetectorFrame := by
  intro i s t hi h
  have hsur : SameSurroundings s t := exec_surroundings i s t h
  rcases exec_inv i s t h with ⟨l, rfl, rfl⟩ | ⟨l, -, rfl, rfl⟩ | ⟨thr, hthr, -, rfl⟩ | ⟨rev, rfl, -⟩ | ⟨rfl, -⟩ |
    ⟨lp, rp, ld, rd, rfl, -⟩ | ⟨d, rfl, -⟩
  · simp [SamePhaseSequencer, SameDisplay, SameEdgeDetector, hsur]
  · obtain ⟨hseq, hdisp, hdraws⟩ := s.edge_frame l
    refine ⟨hseq, hdisp, hsur, hdraws, by simp, fun l₁ l' hl hne => ?_, by simp⟩
    cases hl
    exact s.edge_armed_get_of_ne hne
  · obtain ⟨hseq, hdisp, hdraws⟩ := s.edge_frame .photo
    refine ⟨hseq, hdisp, hsur, hdraws, ?_, fun l₁ l' hl hne => ?_, fun thr₁ l' _ hne => s.edge_armed_get_of_ne hne⟩
    · rcases hthr with rfl | ⟨rfl, -⟩ <;> simp
    · obtain ⟨rfl, -⟩ : i = .poll .photo ∧ thr = 1#8 := hthr.resolve_left (by simp [hl])
      cases hl
      exact s.edge_armed_get_of_ne hne
  all_goals simp at hi

/-- Settles O55: the drives of STEP and STOP are those of COIL, DCM and BCLK. -/
theorem phaseSequencerFrame : Obligations.PhaseSequencerFrame := by
  intro i s t hi h
  have hsur : SameSurroundings s t := exec_surroundings i s t h
  rcases hi with ⟨rev, rfl⟩ | rfl
  · cases h
    simp [SameEdgeDetector, SameDisplay, hsur]
  · cases h
    simp [SameEdgeDetector, SameDisplay, hsur]

/-- DIGIT answers a byte, from its table or drawn (R176, R177). -/
theorem execDigit_inv {d : BitVec 4} {s t : State} (h : execDigit d s = .next t) :
    (∃ v, t = s.ret v) ∨ t = s.drawByte.2.ret s.drawByte.1 := by
  unfold execDigit at h
  split at h
  · exact .inl ⟨_, (Host.Outcome.next.inj h).symm⟩
  · exact .inr (Host.Outcome.next.inj h).symm

/-- Settles O56: the drives of REFRESH are those of SEG, DSL and DSR; DIGIT has none. -/
theorem displayRefresherFrame : Obligations.DisplayRefresherFrame := by
  intro i s t hi h
  have hsur : SameSurroundings s t := exec_surroundings i s t h
  rcases hi with ⟨lp, rp, ld, rd, rfl⟩ | ⟨d, rfl⟩
  · obtain rfl : _ = t := Host.Outcome.next.inj h
    refine ⟨?_, ?_, hsur, by simp, fun _ => ?_⟩
    · simp [SameEdgeDetector, State.strobeLeft, State.strobeRight]
    · simp [SamePhaseSequencer, State.strobeLeft, State.strobeRight]
    · simp [State.strobeLeft, State.strobeRight]
  · rcases execDigit_inv h with ⟨v, rfl⟩ | rfl
    · simp [SameEdgeDetector, SamePhaseSequencer, SameDisplay, hsur]
    · exact ⟨⟨rfl, rfl, rfl⟩, ⟨rfl, rfl, rfl, rfl, rfl, rfl⟩, hsur, fun _ => ⟨⟨rfl, rfl, rfl, rfl, rfl⟩, rfl⟩, by simp⟩

theorem countStep_lt (e : Bool) {count thr : Byte} (h : count.toNat < thr.toNat) :
    (countStep e count thr).2.toNat < thr.toNat := by
  rw [countStep_eq]
  have h255 := thr.isLt
  cases e with
  | false => simpa using h
  | true =>
    by_cases hc : count.toNat + 1 = thr.toNat
    · simp [hc]; omega
    · simp [hc, BitVec.toNat_add]; omega

theorem pollThreshold_count_lt {thr : Byte} {s t : State} (h : pollThreshold thr s = .next t) :
    t.count.toNat < thr.toNat := by
  obtain ⟨hlt, rfl⟩ := pollThreshold_inv thr s t h
  exact countStep_lt _ hlt

/-- Settles O36: both threshold polls leave the count below their threshold, which is 1 for POLL PHOTO. -/
theorem countStaysBelowThreshold : Obligations.CountStaysBelowThreshold := by
  refine ⟨fun thr s t h => pollThreshold_count_lt h, fun s t h => ?_, fun i s t hpollt hphoto h => ?_⟩
  · have hlt : t.count.toNat < 1 := pollThreshold_count_lt (thr := 1#8) h
    exact BitVec.eq_of_toNat_eq (Nat.lt_one_iff.1 hlt)
  · rcases exec_inv i s t h with ⟨l, -, rfl⟩ | ⟨l, -, -, rfl⟩ | ⟨thr, rfl | ⟨rfl, -⟩, -⟩ | ⟨rev, -, rfl⟩ | ⟨-, rfl⟩ |
      ⟨lp, rp, ld, rd, -, rfl⟩ | ⟨d, -, ⟨v, -, rfl⟩ | ⟨-, rfl⟩⟩
    · rfl
    · rfl
    · exact absurd rfl (hpollt thr)
    · exact absurd rfl hphoto
    all_goals simp [State.strobeLeft, State.strobeRight, State.drawByte]

/-! ## What one step does to the block -/

/-- The fields that the invariants of R37 and the ghosts of `Watched` read are the same. -/
structure SameBlock (s t : State) : Prop where
  params : t.params = s.params
  armed : t.armed = s.armed
  passedState : t.passedState = s.passedState
  count : t.count = s.count
  phaseCtr : t.phaseCtr = s.phaseCtr
  coil : t.coil = s.coil
  dcm : t.dcm = s.dcm
  bclk : t.bclk = s.bclk
  seg : t.seg = s.seg
  dsl : t.dsl = s.dsl
  dsr : t.dsr = s.dsr
  coilQ : t.coilQ = s.coilQ
  dcmQ : t.dcmQ = s.dcmQ
  rst : t.rst = s.rst
  cmdReady : t.cmdReady = s.cmdReady
  trace : t.trace = s.trace

theorem SameBlock.refl (s : State) : SameBlock s s := by
  constructor <;> rfl

/-- The six things a step can do (R14, R230, R66): an operation, whole or cut short by reset; a move that the block does not see;
reset, its fall, the external driver's move, each after the plan of moves and an earlier response have been taken away. -/
inductive StepEffect (s : State) : State → Prop
  | completed {i : Instr} {t : State} (hbegins : begins s = some i) (hcompletes : completes s = some i)
      (hrst : s.rst = false) (hexec : exec i s.accept = .next t) : StepEffect s t
  | cutShort {i : Instr} {u : State} (k : Nat) (hbegins : begins s = some i)
      (hexec : exec i s.accept = .next u) : StepEffect s (abandon k s.accept u)
  | quiet {t : State} (hbegins : begins s = none) (hsame : SameBlock s t) : StepEffect s t
  | resetRises {v : State} (hbegins : begins s = none) (hsame : SameBlock s v) : StepEffect s v.rstRise
  | resetFalls {v : State} (hbegins : begins s = none) (hrst : s.rst = true) (hsame : SameBlock s v) : StepEffect s v.rstFall
  | driven {v : State} (p : Nat) (hbegins : begins s = none) (hrst : s.rst = false) (hsame : SameBlock s v) :
      StepEffect s (v.externalDrive p)

theorem begins_eq_none {s : State} (h : s.takesCommand = false) : begins s = none := by
  simp [begins, h]

theorem begins_eq_some {s : State} {i : Instr} (h : s.takesCommand = true) (hi : decode s.cmd = .ok i) :
    begins s = some i := by
  simp [begins, h, hi]

theorem completes_eq_none {s : State} (h : begins s = none) : completes s = none := by
  simp [completes, h]

/-- The moves, each made from a state `v` that has the block of `s`. -/
theorem stepEffect_of_takeInput {s v t : State} {i : Input} (hbegins : begins s = none) (hsame : SameBlock s v)
    (h : takeInput i v = .next t) : StepEffect s t := by
  have hrst : v.rst = s.rst := hsame.rst
  rcases takeInput_inv i v t h with ⟨w, -, rfl⟩ | ⟨l, b, -, rfl⟩ | ⟨b, -, rfl⟩ | ⟨k, -, rfl⟩ | ⟨p, -, hr, rfl⟩
  · exact .quiet hbegins { hsame with }
  · exact .quiet hbegins { hsame with }
  · cases b with
    | true => exact .resetRises hbegins hsame
    | false =>
      cases hr : v.rst with
      | true =>
        rw [State.driveRst, if_neg Bool.false_ne_true, if_pos hr]
        exact .resetFalls hbegins (hrst ▸ hr) hsame
      | false =>
        rw [State.driveRst, if_neg Bool.false_ne_true, if_neg (by simp [hr])]
        exact .quiet hbegins hsame
  · exact .quiet hbegins { hsame with }
  · exact .driven p hbegins (hrst ▸ hr) hsame

theorem step_effect {s t : State} (h : step s = .next t) : StepEffect s t := by
  rcases step_inv s t h with ⟨i, u, ht, hi, hu, ⟨hk, rfl⟩ | ⟨k, -, rfl⟩⟩ | ⟨ht, -, rfl⟩ | ⟨i, rest, ht, -, hm⟩
  · obtain ⟨-, -, hrst⟩ := (takesCommand_iff s).1 ht
    exact .completed (begins_eq_some ht hi) (by simp [completes, hk, begins_eq_some ht hi]) hrst hu
  · exact .cutShort k (begins_eq_some ht hi) hu
  · exact .quiet (begins_eq_none ht) { SameBlock.refl s with }
  · refine stepEffect_of_takeInput (begins_eq_none ht) ?_ hm
    exact { SameBlock.refl s with }

theorem abandon_params (k : Nat) (s t : State) : (abandon k s t).params = s.params :=
  (replay_keeps_params _ s).1

/-- Settles O17: neither an operation, nor what is replayed of one, nor a move writes the parameters. -/
theorem stepKeepsParameters : Obligations.StepKeepsParameters := by
  intro s t h
  cases step_effect h with
  | completed _ _ _ hexec => exact (exec_surroundings _ _ _ hexec).1
  | cutShort k _ _ => exact abandon_params k s.accept _
  | quiet _ hsame => exact hsame.params
  | resetRises _ hsame => exact hsame.params
  | resetFalls _ _ hsame => exact hsame.params
  | driven p _ _ hsame => simpa [State.externalDrive] using hsame.params

/-- Only STEP writes the phase counter (R147). -/
theorem exec_phaseCtr {i : Instr} {s t : State} (h : exec i s = .next t) (hi : ∀ rev, i ≠ .step rev) :
    t.phaseCtr = s.phaseCtr := by
  rcases exec_inv i s t h with ⟨l, -, rfl⟩ | ⟨l, -, -, rfl⟩ | ⟨thr, -, -, rfl⟩ | ⟨rev, rfl, -⟩ | ⟨-, rfl⟩ |
    ⟨lp, rp, ld, rd, -, rfl⟩ | ⟨d, -, ⟨v, -, rfl⟩ | ⟨-, rfl⟩⟩
  · rfl
  · rfl
  · rfl
  · exact absurd rfl (hi rev)
  · simp
  · simp [State.strobeLeft, State.strobeRight]
  · rfl
  · rfl

/-- Settles O57: of the six effects, a completed STEP and the two edges of reset are those that write the counter. -/
theorem onlyStepAndResetChangeThePhase : Obligations.OnlyStepAndResetChangeThePhase := by
  intro s t h hne
  cases step_effect h with
  | @completed i _ _ hcompletes _ hexec =>
    by_contra hno
    have hkept := exec_phaseCtr hexec fun rev hi => hno (.inl ⟨rev, hi ▸ hcompletes⟩)
    exact hne hkept
  | cutShort k _ _ => exact .inr (.inl rfl)
  | quiet _ hsame => exact absurd hsame.phaseCtr hne
  | resetRises _ _ => exact .inr (.inl rfl)
  | resetFalls _ hrst _ => exact .inr (.inr hrst)
  | driven p _ _ hsame => exact absurd (by simpa [State.externalDrive] using hsame.phaseCtr) hne

/-! ## The invariant of the states between operations (R37 (a) and (d)) -/

/-- Reset values meet the invariant, whatever the latches hold within their width. -/
theorem inv_of_atReset {s : State} (hvalues : AtReset s) (hparams : s.params.wellFormed = true)
    (hlatch : s.dcmQ < 2 ^ s.params.ndc) (hready : s.cmdReady = !s.rst) : Inv s where
  params := hparams
  dcmWidth := by simp [hvalues.dcm]
  dcmQWidth := hlatch
  beam := by simp [hvalues.passedState, hvalues.armed]
  bclkLow := hvalues.bclk
  dslLow := hvalues.dsl
  dsrLow := hvalues.dsr
  ready := hready
  held := fun _ => hvalues

/-- The state after reset at power-up meets the invariant. -/
theorem inv_atPowerUp : Inv State.reset :=
  inv_of_atReset ⟨rfl, rfl, rfl, rfl, rfl, rfl, rfl, rfl, rfl, rfl⟩ (by decide) (Nat.mod_lt _ (by decide)) rfl

/-- Settles O20: nothing is remembered, and the count is zero. -/
theorem resetMeetsTheInvariants : Obligations.ResetMeetsTheInvariants :=
  ⟨inv_atPowerUp,
    { base := inv_atPowerUp
      countBelow := fun _ h => nomatch h
      countZero := fun _ => rfl
      afterStep := fun h => nomatch h
      afterStop := fun h => nomatch h }⟩

theorem Inv.of_sameBlock {s t : State} (h : Inv s) (hsame : SameBlock s t) : Inv t := by
  constructor
  case params => rw [hsame.params, h.params]
  case dcmWidth => rw [hsame.params, hsame.dcm]; exact h.dcmWidth
  case dcmQWidth => rw [hsame.params, hsame.dcmQ]; exact h.dcmQWidth
  case beam => rw [hsame.armed, hsame.passedState, h.beam]
  case bclkLow => rw [hsame.bclk, h.bclkLow]
  case dslLow => rw [hsame.dsl, h.dslLow]
  case dsrLow => rw [hsame.dsr, h.dsrLow]
  case ready => rw [hsame.cmdReady, hsame.rst, h.ready]
  case held =>
    intro hr
    have hv : AtReset s := h.held (hsame.rst ▸ hr)
    exact ⟨hsame.armed.trans hv.armed, hsame.passedState.trans hv.passedState, hsame.count.trans hv.count,
      hsame.phaseCtr.trans hv.phaseCtr, hsame.coil.trans hv.coil, hsame.dcm.trans hv.dcm, hsame.seg.trans hv.seg,
      hsame.bclk.trans hv.bclk, hsame.dsl.trans hv.dsl, hsame.dsr.trans hv.dsr⟩

theorem State.rstRise_atReset (s : State) : AtReset s.rstRise := by constructor <;> rfl

theorem State.rstFall_atReset (s : State) : AtReset s.rstFall := by constructor <;> rfl

theorem abandon_atReset (k : Nat) (s t : State) : AtReset (abandon k s t) := by constructor <;> rfl

/-- What `abandon` replays keeps the DC-motor latch within its width; the rest is reset. -/
theorem abandon_inv {k : Nat} {s t : State} (hparams : s.params.wellFormed = true) (hdcm : s.dcm < 2 ^ s.params.ndc)
    (hdcmQ : s.dcmQ < 2 ^ s.params.ndc) : Inv (abandon k s t) := by
  obtain ⟨-, hw⟩ := replay_keeps_dcmQ_width ((t.trace.drop s.trace.length).take k) s hdcm hdcmQ
  refine inv_of_atReset (abandon_atReset k s t) ?_ ?_ rfl
  · rw [abandon_params, hparams]
  · rw [abandon_params]
    exact hw

/-- The external driver's move commits what it drives, from BCLK low to BCLK low (R66). -/
theorem externalDrive_inv {s : State} (p : Nat) (h : Inv s) (hrst : s.rst = false) : Inv (s.externalDrive p) := by
  have hlow : ((s.drive (.dcm p)).drive (.coil 0#4)).bclk = false := h.bclkLow
  have hwidth : p % 2 ^ s.params.ndc < 2 ^ s.params.ndc := Nat.mod_lt _ (Nat.two_pow_pos _)
  rw [State.externalDrive, State.clockReset_of_low _ hlow]
  exact ⟨h.params, hwidth, hwidth, h.beam, rfl, h.dslLow, h.dsrLow, h.ready, fun hr => by simp [hrst] at hr⟩

/-- R37 (a) through the Edge step: on the photo line `passed_state` and `armed` are written from one sample (R112, R113). -/
theorem State.edge_keeps_beam (l : Line) {s : State} (h : s.passedState = !s.armed.photo) :
    (s.edge l).2.passedState = !(s.edge l).2.armed.photo := by
  rw [State.edge_eq]
  cases l with
  | photo => simp [LineBits.set]
  | toggle => exact h
  | tactA => exact h
  | tactB => exact h

theorem exec_keeps_beam {i : Instr} {s t : State} (h : exec i s = .next t) (hb : s.passedState = !s.armed.photo) :
    t.passedState = !t.armed.photo := by
  rcases exec_inv i s t h with ⟨l, -, rfl⟩ | ⟨l, -, -, rfl⟩ | ⟨thr, -, -, rfl⟩ | ⟨rev, -, rfl⟩ | ⟨-, rfl⟩ |
    ⟨lp, rp, ld, rd, -, rfl⟩ | ⟨d, -, ⟨v, -, rfl⟩ | ⟨-, rfl⟩⟩
  · exact hb
  · exact State.edge_keeps_beam l hb
  · exact State.edge_keeps_beam .photo hb
  · simpa using hb
  · simpa using hb
  · simpa [State.strobeLeft, State.strobeRight] using hb
  · exact hb
  · exact hb

/-- R37 (d): each strobe line an operation raises, it drops. -/
theorem exec_keeps_strobes_low {i : Instr} {s t : State} (h : exec i s = .next t)
    (hb : s.bclk = false) (hl : s.dsl = false) (hr : s.dsr = false) : t.bclk = false ∧ t.dsl = false ∧ t.dsr = false := by
  rcases exec_inv i s t h with ⟨l, -, rfl⟩ | ⟨l, -, -, rfl⟩ | ⟨thr, -, -, rfl⟩ | ⟨rev, -, rfl⟩ | ⟨-, rfl⟩ |
    ⟨lp, rp, ld, rd, -, rfl⟩ | ⟨d, -, ⟨v, -, rfl⟩ | ⟨-, rfl⟩⟩
  · exact ⟨hb, hl, hr⟩
  · exact ⟨hb, hl, hr⟩
  · exact ⟨hb, hl, hr⟩
  · simp [hl, hr]
  · simp [hl, hr]
  · simp [State.strobeLeft, State.strobeRight, hb]
  · exact ⟨hb, hl, hr⟩
  · exact ⟨hb, hl, hr⟩

theorem State.clockReset_coilQ {s : State} (h : s.bclk = false) : s.clockReset.coilQ = s.coil := by
  rw [s.clockReset_of_low h]

theorem State.clockReset_dcmQ {s : State} (h : s.bclk = false) : s.clockReset.dcmQ = s.dcm := by
  rw [s.clockReset_of_low h]

/-- A STEP commits the pattern of its phase and zero DC-motor lines (R142, R151). -/
theorem exec_step_commits {rev : Bool} {s t : State} (hlow : s.bclk = false) (h : exec (.step rev) s = .next t) :
    t.coilQ = stepPattern s.params rev (nextPhase s.phaseCtr) ∧ t.dcm = 0 ∧ t.dcmQ = 0 := by
  cases h
  refine ⟨State.clockReset_coilQ hlow, by simp, ?_⟩
  rw [State.ret_dcmQ, State.wait_dcmQ, State.clockReset_dcmQ, State.drive_dcm_dcm, Nat.zero_mod]
  exact hlow

/-- A STOP commits zero coil lines, and DCM as it stands (R146, D24). -/
theorem exec_stop_commits {s t : State} (hlow : s.bclk = false) (h : exec .stop s = .next t) :
    t.coilQ = 0#4 ∧ t.dcm = s.dcm ∧ t.dcmQ = s.dcm := by
  cases h
  exact ⟨State.clockReset_coilQ hlow, by simp, State.clockReset_dcmQ hlow⟩

/-- The DC-motor lines and their latch keep within NDC bits: an operation reaches them by drives alone (R20). -/
theorem exec_keeps_motor_width {i : Instr} {s t : State} (h : exec i s = .next t) (hlow : s.bclk = false)
    (hd : s.dcm < 2 ^ s.params.ndc) (hq : s.dcmQ < 2 ^ s.params.ndc) : t.dcm < 2 ^ t.params.ndc ∧ t.dcmQ < 2 ^ t.params.ndc := by
  rcases exec_inv i s t h with ⟨l, -, rfl⟩ | ⟨l, -, -, rfl⟩ | ⟨thr, -, -, rfl⟩ | ⟨rev, rfl, -⟩ | ⟨rfl, -⟩ |
    ⟨lp, rp, ld, rd, -, rfl⟩ | ⟨d, -, ⟨v, -, rfl⟩ | ⟨-, rfl⟩⟩
  · exact ⟨hd, hq⟩
  · exact ⟨hd, hq⟩
  · exact ⟨hd, hq⟩
  · obtain ⟨-, hd', hq'⟩ := exec_step_commits hlow h
    rw [hd', hq']
    exact ⟨Nat.two_pow_pos _, Nat.two_pow_pos _⟩
  · obtain ⟨-, hd', hq'⟩ := exec_stop_commits hlow h
    rw [hd', hq', (exec_surroundings _ s t h).1]
    exact ⟨hd, hd⟩
  · simp [State.strobeLeft, State.strobeRight, hd, hq]
  · exact ⟨hd, hq⟩
  · exact ⟨hd, hq⟩

theorem exec_cmdReady {i : Instr} {s t : State} (h : exec i s = .next t) : t.cmdReady = true := by
  rcases exec_inv i s t h with ⟨l, -, rfl⟩ | ⟨l, -, -, rfl⟩ | ⟨thr, -, -, rfl⟩ | ⟨rev, -, rfl⟩ | ⟨-, rfl⟩ |
    ⟨lp, rp, ld, rd, -, rfl⟩ | ⟨d, -, ⟨v, -, rfl⟩ | ⟨-, rfl⟩⟩
  all_goals rfl

/-- A completed operation keeps the invariant; reset does not hold the block, so the last clause is empty. -/
theorem exec_accept_inv {i : Instr} {s t : State} (h : Inv s) (hrst : s.rst = false) (hexec : exec i s.accept = .next t) :
    Inv t := by
  obtain ⟨hparams, -, hrst', -⟩ := exec_surroundings i _ t hexec
  obtain ⟨hb, hl, hr⟩ := exec_keeps_strobes_low hexec h.bclkLow h.dslLow h.dsrLow
  obtain ⟨hd, hq⟩ := exec_keeps_motor_width hexec h.bclkLow h.dcmWidth h.dcmQWidth
  have hlow : t.rst = false := hrst'.trans hrst
  exact
    { params := hparams ▸ h.params
      dcmWidth := hd
      dcmQWidth := hq
      beam := exec_keeps_beam hexec h.beam
      bclkLow := hb
      dslLow := hl
      dsrLow := hr
      ready := by rw [exec_cmdReady hexec, hlow]; rfl
      held := fun hhigh => by simp [hlow] at hhigh }

/-- Settles O21: each of the six effects keeps the invariant; reset establishes it anew. -/
theorem stepKeepsInvariant : Obligations.StepKeepsInvariant := by
  intro s t h hstep
  cases step_effect hstep with
  | completed _ _ hrst hexec => exact exec_accept_inv h hrst hexec
  | cutShort k _ _ => exact abandon_inv h.params h.dcmWidth h.dcmQWidth
  | quiet _ hsame => exact h.of_sameBlock hsame
  | resetRises _ hsame =>
    have hv := h.of_sameBlock hsame
    exact inv_of_atReset (State.rstRise_atReset _) hv.params hv.dcmQWidth rfl
  | resetFalls _ _ hsame =>
    have hv := h.of_sameBlock hsame
    exact inv_of_atReset (State.rstFall_atReset _) hv.params hv.dcmQWidth rfl
  | driven p _ hrst hsame => exact externalDrive_inv p (h.of_sameBlock hsame) (hsame.rst.trans hrst)

/-! ## The watched machine: the last threshold (R37 (b)) -/

theorem thresholdAfter_of_begins_none {w : Watched} (h : begins w.st = none) : thresholdAfter w false = w.threshold := by
  simp [thresholdAfter, completes_eq_none h]

/-- Only the two threshold polls set the remembered threshold. -/
theorem thresholdAfter_of_other {w : Watched} {i : Instr} (h : completes w.st = some i) (hpollt : ∀ thr, i ≠ .pollt thr)
    (hphoto : i ≠ .poll .photo) : thresholdAfter w false = w.threshold := by
  unfold thresholdAfter
  rw [if_neg Bool.false_ne_true]
  split
  · next thr hc => exact absurd (Option.some.inj (h.symm.trans hc)) (hpollt thr)
  · next hc => exact absurd (Option.some.inj (h.symm.trans hc)) hphoto
  · rfl

/-- A step forgets the threshold and zeroes the count, takes up a new threshold, or keeps both. -/
theorem thresholdAfter_cases {w : Watched} {t : State} (h : step w.st = .next t) (hinv : Inv w.st) :
    (t.count = 0 ∧ thresholdAfter w t.rst = none) ∨
    (∃ thr, t.count.toNat < thr.toNat ∧ thresholdAfter w t.rst = some thr) ∨
    (t.count = w.st.count ∧ thresholdAfter w t.rst = w.threshold) := by
  cases hrst : t.rst with
  | true => exact .inl ⟨((stepKeepsInvariant _ _ hinv h).held hrst).count, rfl⟩
  | false =>
    cases step_effect h with
    | @completed i _ _ hcompletes _ hexec =>
      by_cases hpollt : ∃ thr, i = .pollt thr
      · obtain ⟨thr, rfl⟩ := hpollt
        exact .inr (.inl ⟨thr, pollThreshold_count_lt hexec, by simp [thresholdAfter, hcompletes]⟩)
      by_cases hphoto : i = .poll .photo
      · subst hphoto
        exact .inr (.inl ⟨1#8, pollThreshold_count_lt hexec, by simp [thresholdAfter, hcompletes]⟩)
      have hne : ∀ thr, i ≠ .pollt thr := fun thr hi => hpollt ⟨thr, hi⟩
      obtain ⟨-, -, hkept⟩ := countStaysBelowThreshold
      exact .inr (.inr ⟨hkept i w.st.accept t hne hphoto hexec, thresholdAfter_of_other hcompletes hne hphoto⟩)
    | cutShort k _ _ => simp [abandon] at hrst
    | quiet hbegins hsame => exact .inr (.inr ⟨hsame.count, thresholdAfter_of_begins_none hbegins⟩)
    | resetRises _ _ => simp at hrst
    | resetFalls hbegins hhigh _ =>
      exact .inr (.inr ⟨(hinv.held hhigh).count.symm, thresholdAfter_of_begins_none hbegins⟩)
    | driven p hbegins _ hsame =>
      exact .inr (.inr ⟨by simpa [State.externalDrive] using hsame.count, thresholdAfter_of_begins_none hbegins⟩)

/-! ## The watched machine: the last commit (R37 (e)) -/

/-- An event that is no write of 1 to BCLK commits nothing (R35). -/
theorem State.replay_keeps_latches (s : State) {e : Event} (h : e ≠ .write (.bclk true)) :
    (s.replay e).coilQ = s.coilQ ∧ (s.replay e).dcmQ = s.dcmQ := by
  cases e with
  | sample l b => exact ⟨rfl, rfl⟩
  | wait d => exact ⟨rfl, rfl⟩
  | write d =>
    obtain ⟨hcoil, hdcm, -⟩ := clockLineCommits s d
    have hd : ¬ (d = .bclk true ∧ s.bclk = false) := fun ⟨hd, _⟩ => h (by rw [hd])
    exact ⟨hcoil.trans (if_neg hd), hdcm.trans (if_neg hd)⟩

theorem replay_without_rise (es : List Event) : ∀ s : State, Event.write (.bclk true) ∉ es →
    (es.foldl State.replay s).coilQ = s.coilQ ∧ (es.foldl State.replay s).dcmQ = s.dcmQ := by
  induction es with
  | nil => exact fun s _ => ⟨rfl, rfl⟩
  | cons e es ih =>
    intro s h
    obtain ⟨hne, hes⟩ := not_or.1 (List.mem_cons.not.1 h)
    obtain ⟨hcoil, hdcm⟩ := s.replay_keeps_latches (Ne.symm hne)
    obtain ⟨hcoil', hdcm'⟩ := ih (s.replay e) hes
    exact ⟨hcoil'.trans hcoil, hdcm'.trans hdcm⟩

/-- A rising edge of BCLK after the events `pre` commits what `pre` left on the ports, and later events without one keep it. -/
theorem replay_through_rise (pre post : List Event) (s : State) (hlow : (pre.foldl State.replay s).bclk = false)
    (hpost : Event.write (.bclk true) ∉ post) :
    ((pre ++ .write (.bclk true) :: post).foldl State.replay s).coilQ = (pre.foldl State.replay s).coil ∧
    ((pre ++ .write (.bclk true) :: post).foldl State.replay s).dcmQ = (pre.foldl State.replay s).dcm := by
  rw [List.foldl_append, List.foldl_cons]
  obtain ⟨hcoil, hdcm⟩ := replay_without_rise post _ hpost
  rw [hcoil, hdcm]
  simp [State.replay, hlow]

/-- A beginning of `pre ++ rise :: post` that holds the one rise goes through it. -/
theorem take_through_rise {pre post : List Event} {e : Event} {k : Nat} (hpre : e ∉ pre)
    (hk : e ∈ (pre ++ e :: post).take k) : ∃ j, (pre ++ e :: post).take k = pre ++ e :: post.take j := by
  have hlen : pre.length < k := by
    by_contra hle
    rw [List.take_append_of_le_length (Nat.not_lt.1 hle)] at hk
    exact hpre (List.mem_of_mem_take hk)
  obtain ⟨j, rfl⟩ : ∃ j, k = pre.length + (j + 1) := ⟨k - pre.length - 1, by omega⟩
  exact ⟨j, by rw [List.take_length_add_append, List.take_succ_cons]⟩

/-- Whether the trace shows a rising edge of BCLK after the replay is whether the events had one. -/
theorem replay_trace_rises (es : List Event) : ∀ s : State, ∃ x, (es.foldl State.replay s).trace = s.trace ++ x ∧
    (Event.write (.bclk true) ∈ x ↔ Event.write (.bclk true) ∈ es) := by
  induction es with
  | nil => exact fun s => ⟨[], by simp, Iff.rfl⟩
  | cons e es ih =>
    intro s
    obtain ⟨x, hx, hrise⟩ := ih (s.replay e)
    have hlog : ∃ y, (s.replay e).trace = s.trace ++ y ∧ (Event.write (.bclk true) ∈ y ↔ Event.write (.bclk true) = e) := by
      cases e with
      | sample l b => exact ⟨[_], rfl, List.mem_singleton⟩
      | wait d => exact ⟨[_], rfl, List.mem_singleton⟩
      | write d =>
        refine ⟨s.writeEvents d, rfl, ?_⟩
        cases d <;> simp [State.writeEvents]
    obtain ⟨y, hy, hrise'⟩ := hlog
    exact ⟨y ++ x, by rw [List.foldl_cons, hx, hy, List.append_assoc], by rw [List.mem_append, List.mem_cons, hrise, hrise']⟩

/-- The events from `s` to `t` hold a write of 1 to BCLK: a rising edge, BCLK being low between operations (R37 (d)). -/
def Rises (s t : State) : Prop := Event.write (.bclk true) ∈ t.trace.drop s.trace.length

theorem rises_abandon_iff (k : Nat) (s u : State) :
    Rises s (abandon k s u) ↔ Event.write (.bclk true) ∈ (u.trace.drop s.trace.length).take k := by
  obtain ⟨x, hx, hrise⟩ := replay_trace_rises ((u.trace.drop s.trace.length).take k) s
  have ht : (abandon k s u).trace = s.trace ++ x := hx
  rw [Rises, ht, List.drop_left, hrise]

/-- STEP and STOP always raise BCLK; the other operations write neither COIL_Q nor DCM_Q. -/
theorem exec_latches_of_not_rises {i : Instr} {s t : State} (h : exec i s = .next t) (hn : ¬ Rises s t) :
    t.coilQ = s.coilQ ∧ t.dcmQ = s.dcmQ := by
  rcases exec_inv i s t h with ⟨l, -, rfl⟩ | ⟨l, -, -, rfl⟩ | ⟨thr, -, -, rfl⟩ | ⟨rev, -, rfl⟩ | ⟨-, rfl⟩ |
    ⟨lp, rp, ld, rd, -, rfl⟩ | ⟨d, -, ⟨v, -, rfl⟩ | ⟨-, rfl⟩⟩
  · exact ⟨rfl, rfl⟩
  · exact ⟨rfl, rfl⟩
  · exact ⟨rfl, rfl⟩
  · exact absurd (by simp [Rises]) hn
  · exact absurd (by simp [Rises]) hn
  · simp [State.strobeLeft, State.strobeRight]
  · exact ⟨rfl, rfl⟩
  · exact ⟨rfl, rfl⟩

theorem step_latches_of_not_rises {s t : State} (h : step s = .next t) (hn : ¬ Rises s t) :
    t.coilQ = s.coilQ ∧ t.dcmQ = s.dcmQ := by
  cases step_effect h with
  | completed _ _ _ hexec => exact exec_latches_of_not_rises (s := s.accept) hexec hn
  | cutShort k _ _ => exact replay_without_rise _ _ ((rises_abandon_iff k _ _).not.1 hn)
  | quiet _ hsame => exact ⟨hsame.coilQ, hsame.dcmQ⟩
  | resetRises _ hsame => exact ⟨hsame.coilQ, hsame.dcmQ⟩
  | resetFalls _ _ hsame => exact ⟨hsame.coilQ, hsame.dcmQ⟩
  | driven p _ _ hsame => exact absurd (by simp [Rises, State.externalDrive, ← hsame.trace]) hn

/-- The events of a STEP before the rising edge of BCLK (R142). -/
def stepLead (pr : Params) (pat : Nibble) : List Event :=
  .write (.coil pat) :: ((if pr.ndc = 0 then [] else [.write (.dcm 0)]) ++ [.wait .clk])

/-- The events of a STOP before the rising edge of BCLK (R146). -/
def stopLead : List Event := [.write (.coil 0#4), .wait .clk]

theorem exec_step_events {rev : Bool} {s t : State} (h : exec (.step rev) s = .next t) :
    t.trace.drop s.trace.length = stepLead s.params (stepPattern s.params rev (nextPhase s.phaseCtr)) ++
      .write (.bclk true) :: [.write (.bclk false), .wait .step] := by
  cases h
  simp [State.writeEvents, stepLead]

theorem exec_stop_events {s t : State} (h : exec .stop s = .next t) :
    t.trace.drop s.trace.length = stopLead ++ .write (.bclk true) :: [.write (.bclk false)] := by
  cases h
  simp [State.writeEvents, stopLead]

theorem replay_stepLead {s : State} (pat : Nibble) (hd : s.dcm < 2 ^ s.params.ndc) :
    ((stepLead s.params pat).foldl State.replay s).bclk = s.bclk ∧
    ((stepLead s.params pat).foldl State.replay s).coil = pat ∧
    ((stepLead s.params pat).foldl State.replay s).dcm = 0 := by
  by_cases hndc : s.params.ndc = 0
  · have hzero : s.dcm = 0 := by simpa [hndc] using hd
    simp [stepLead, State.replay, hndc, hzero]
  · simp [stepLead, State.replay, hndc]

/-- An operation cut short after its one rising edge of BCLK has committed what its lead put on the ports (R35, R237). -/
theorem abandon_through_rise {k : Nat} {s u : State} {lead post : List Event}
    (hevents : u.trace.drop s.trace.length = lead ++ .write (.bclk true) :: post)
    (hlead : Event.write (.bclk true) ∉ lead) (hpost : Event.write (.bclk true) ∉ post)
    (hlow : (lead.foldl State.replay s).bclk = false) (hrise : Rises s (abandon k s u)) :
    (abandon k s u).coilQ = (lead.foldl State.replay s).coil ∧ (abandon k s u).dcmQ = (lead.foldl State.replay s).dcm := by
  rw [rises_abandon_iff, hevents] at hrise
  obtain ⟨j, hj⟩ := take_through_rise hlead hrise
  rw [abandon, hevents, hj]
  exact replay_through_rise lead (post.take j) s hlow fun hmem => hpost (List.mem_of_mem_take hmem)

/-- A STEP that raised BCLK, cut short afterwards or not, has committed its pattern and zero DC-motor lines. -/
theorem step_latches_of_rises {rev : Bool} {s t u : State} (hexec : exec (.step rev) s = .next u)
    (ht : t = u ∨ ∃ k, t = abandon k s u) (hlow : s.bclk = false) (hd : s.dcm < 2 ^ s.params.ndc) (hrise : Rises s t) :
    t.coilQ = stepPattern s.params rev (nextPhase s.phaseCtr) ∧ t.dcmQ = 0 := by
  rcases ht with rfl | ⟨k, rfl⟩
  · obtain ⟨hcoil, -, hdcm⟩ := exec_step_commits hlow hexec
    exact ⟨hcoil, hdcm⟩
  · obtain ⟨hb, hcoil, hdcm⟩ := replay_stepLead (stepPattern s.params rev (nextPhase s.phaseCtr)) hd
    obtain ⟨hcoilQ, hdcmQ⟩ := abandon_through_rise (exec_step_events hexec) (by simp [stepLead]) (by simp) (hb.trans hlow) hrise
    exact ⟨hcoilQ.trans hcoil, hdcmQ.trans hdcm⟩

/-- A STOP that raised BCLK, cut short afterwards or not, has committed zero coil lines. -/
theorem stop_latch_of_rises {s t u : State} (hexec : exec .stop s = .next u) (ht : t = u ∨ ∃ k, t = abandon k s u)
    (hlow : s.bclk = false) (hrise : Rises s t) : t.coilQ = 0 := by
  rcases ht with rfl | ⟨k, rfl⟩
  · exact (exec_stop_commits hlow hexec).1
  · exact (abandon_through_rise (exec_stop_events hexec) (by simp [stopLead]) (by simp) hlow hrise).1

theorem step_of_begins {s t : State} {i : Instr} (h : step s = .next t) (hb : begins s = some i) :
    ∃ u, exec i s.accept = .next u ∧ (t = u ∨ ∃ k, t = abandon k s.accept u) := by
  cases step_effect h with
  | completed hbegins _ _ hexec =>
    obtain rfl := Option.some.inj (hb.symm.trans hbegins)
    exact ⟨t, hexec, .inl rfl⟩
  | @cutShort _ u k hbegins hexec =>
    obtain rfl := Option.some.inj (hb.symm.trans hbegins)
    exact ⟨u, hexec, .inr ⟨k, rfl⟩⟩
  | quiet hbegins _ => cases hbegins.symm.trans hb
  | resetRises hbegins _ => cases hbegins.symm.trans hb
  | resetFalls hbegins _ _ => cases hbegins.symm.trans hb
  | driven _ hbegins _ _ => cases hbegins.symm.trans hb

theorem commitAfter_of_rises {w : Watched} {t : State} {c : CoilCommit} (hrise : Rises w.st t)
    (h : commitAfter w t = some c) :
    (∃ rev, begins w.st = some (.step rev) ∧ c = .byStep) ∨ (begins w.st = some .stop ∧ c = .byStop) := by
  unfold commitAfter at h
  rw [if_pos (show Event.write (.bclk true) ∈ t.trace.drop w.st.trace.length from hrise)] at h
  split at h
  · next rev hb => exact .inl ⟨rev, hb, (Option.some.inj h).symm⟩
  · next hb => exact .inr ⟨hb, (Option.some.inj h).symm⟩
  · cases h

theorem commitAfter_of_not_rises {w : Watched} {t : State} (hrise : ¬ Rises w.st t) : commitAfter w t = w.commit :=
  if_neg hrise

theorem Watched.step_eq {w w' : Watched} (h : w.step = some w') :
    ∃ t, Machine.step w.st = .next t ∧ w' = { st := t, threshold := thresholdAfter w t.rst, commit := commitAfter w t } := by
  unfold Watched.step at h
  split at h
  · next t ht => exact ⟨t, ht, (Option.some.inj h).symm⟩
  · cases h
  · cases h

/-- Settles O22: the base is O21; (b) goes by what the step does to threshold and count, (e) by whether BCLK rises in it. -/
theorem watchedStepKeepsInvariant : Obligations.WatchedStepKeepsInvariant := by
  intro w w' hw hstep
  obtain ⟨t, ht, rfl⟩ := Watched.step_eq hstep
  obtain ⟨hbase, hbelow, hzero, hbyStep, hbyStop⟩ := hw
  have hthr := thresholdAfter_cases ht hbase
  refine ⟨stepKeepsInvariant _ _ hbase ht, fun thr h => ?_, fun h => ?_, fun h => ?_, fun h => ?_⟩
  · rcases hthr with ⟨-, hnone⟩ | ⟨thr', hlt, hsome⟩ | ⟨hcount, hkept⟩
    · cases hnone.symm.trans h
    · cases hsome.symm.trans h
      exact hlt
    · show t.count.toNat < _
      rw [hcount]
      exact hbelow thr (hkept.symm.trans h)
  · rcases hthr with ⟨hcount, -⟩ | ⟨thr', -, hsome⟩ | ⟨hcount, hkept⟩
    · exact hcount
    · cases hsome.symm.trans h
    · exact hcount.trans (hzero (hkept.symm.trans h))
  · by_cases hrise : Rises w.st t
    · rcases commitAfter_of_rises hrise h with ⟨rev, hb, -⟩ | ⟨-, hc⟩
      · obtain ⟨u, hexec, hu⟩ := step_of_begins ht hb
        obtain ⟨hcoil, hdcm⟩ := step_latches_of_rises hexec hu hbase.bclkLow hbase.dcmWidth hrise
        refine ⟨?_, hdcm⟩
        show t.coilQ ∈ t.params.coilPat
        rw [hcoil, stepKeepsParameters _ _ ht]
        exact stepPattern_mem _ _ _
      · cases hc
    · obtain ⟨hcoil, hdcm⟩ := step_latches_of_not_rises ht hrise
      have hp := stepKeepsParameters _ _ ht
      show t.coilQ ∈ t.params.coilPat ∧ t.dcmQ = 0
      rw [hcoil, hdcm, hp]
      exact hbyStep ((commitAfter_of_not_rises hrise).symm.trans h)
  · by_cases hrise : Rises w.st t
    · rcases commitAfter_of_rises hrise h with ⟨rev, -, hc⟩ | ⟨hb, -⟩
      · cases hc
      · obtain ⟨u, hexec, hu⟩ := step_of_begins ht hb
        exact stop_latch_of_rises hexec hu hbase.bclkLow hrise
    · obtain ⟨hcoil, -⟩ := step_latches_of_not_rises ht hrise
      exact hcoil.trans (hbyStop ((commitAfter_of_not_rises hrise).symm.trans h))

end Sys2Proof.Machine

-- Ports and samples in place of a memory: what a drive and a sample reach, what a step appends (spec/20_memory.md)
namespace Sys2Proof.Machine

/-! ## The trace (R58) -/

theorem abandon_appends_to_trace (k : Nat) (s u : State) : ∃ es, (abandon k s u).trace = s.trace ++ es :=
  (replay_keeps_params _ s).2

theorem State.externalDrive_appends_to_trace (p : Nat) (s : State) : ∃ es, (s.externalDrive p).trace = s.trace ++ es := by
  simp [State.externalDrive]

/-- Settles O18: an operation, what is replayed of one, and the external driver's move append; the other effects log nothing. -/
theorem stepAppendsToTrace : Obligations.StepAppendsToTrace := by
  intro s t h
  cases step_effect h with
  | completed _ _ _ hexec => exact exec_appends_to_trace _ s.accept _ hexec
  | cutShort k _ _ => exact abandon_appends_to_trace k s.accept _
  | quiet _ hsame => exact ⟨[], by rw [hsame.trace, List.append_nil]⟩
  | resetRises _ hsame => exact ⟨[], by rw [State.rstRise_trace, hsame.trace, List.append_nil]⟩
  | resetFalls _ _ hsame => exact ⟨[], hsame.trace.trans (List.append_nil _).symm⟩
  | driven p _ _ hsame => exact hsame.trace ▸ State.externalDrive_appends_to_trace p _

/-! ## What samples no input (R59): each primitive commutes with a change of a raw line -/

section Sensors

variable (s : State) (l : Line) (b : Bool)

theorem State.wait_presentLevel (d : Delay) : (s.presentLevel l b).wait d = (s.wait d).presentLevel l b := rfl

theorem State.ret_presentLevel (v : Byte) : (s.presentLevel l b).ret v = (s.ret v).presentLevel l b := rfl

theorem State.drive_presentLevel (d : Drive) : (s.presentLevel l b).drive d = (s.drive d).presentLevel l b := by
  cases d <;> rfl

theorem State.clockReset_presentLevel : (s.presentLevel l b).clockReset = s.clockReset.presentLevel l b := by
  simp only [State.clockReset, State.wait_presentLevel, State.drive_presentLevel]

theorem State.strobeLeft_presentLevel (v : Byte) : (s.presentLevel l b).strobeLeft v = (s.strobeLeft v).presentLevel l b := by
  simp only [State.strobeLeft, State.drive_presentLevel]

theorem State.strobeRight_presentLevel (v : Byte) : (s.presentLevel l b).strobeRight v = (s.strobeRight v).presentLevel l b := by
  simp only [State.strobeRight, State.drive_presentLevel]

end Sensors

/-- Settles O59: STEP, STOP and REFRESH are made of waits and drives, and DIGIT reads its table or draws a byte. -/
theorem outputOperationsIgnoreTheSensors : Obligations.OutputOperationsIgnoreTheSensors := by
  intro i s t l b hi h
  rcases hi with ⟨rev, rfl⟩ | rfl | ⟨lp, rp, ld, rd, rfl⟩ | ⟨d, rfl⟩
  · cases h
    rw [← State.ret_presentLevel, ← State.wait_presentLevel, ← State.clockReset_presentLevel, ← State.drive_presentLevel,
      ← State.drive_presentLevel]
    rfl
  · cases h
    simp only [exec, execStop, State.drive_presentLevel, State.clockReset_presentLevel, State.ret_presentLevel]
  · obtain rfl : _ = t := Host.Outcome.next.inj h
    simp only [exec, execRefresh, State.presentLevel_params, State.strobeLeft_presentLevel, State.wait_presentLevel,
      State.strobeRight_presentLevel, State.ret_presentLevel]
  · revert h
    simp only [exec, execDigit, State.presentLevel_params]
    cases digitEntry s.params d with
    | some v => rintro ⟨⟩; rfl
    | none => rintro ⟨⟩; rfl

/-! ## What the Edge Detector reads (R59) -/

theorem State.active_fst_congr {s s' : State} (hraw : s'.raw = s.raw) (l : Line) : (s'.active l).1 = (s.active l).1 := by
  rw [State.active_fst, State.active_fst, hraw]

theorem State.edge_congr {s s' : State} (hregs : SameEdgeDetector s s') (hraw : s'.raw = s.raw) (l : Line) :
    (s'.edge l).1 = (s.edge l).1 ∧ SameEdgeDetector (s.edge l).2 (s'.edge l).2 := by
  obtain ⟨harmed, hpassed, hcount⟩ := hregs
  simp [State.edge_eq, SameEdgeDetector, hraw, harmed, hpassed, hcount]

/-- POLL of a line other than the photo line returns the result of its Edge step (R114). -/
theorem execPoll_of_ne_photo {l : Line} (hl : l ≠ .photo) (s : State) :
    execPoll l s = .next ((s.edge l).2.ret (boolByte (s.edge l).1)) := by
  cases l with
  | photo => exact absurd rfl hl
  | toggle => rfl
  | tactA => rfl
  | tactB => rfl

/-- The threshold poll's domain, result and registers depend on the Edge Detector's registers and the raw lines alone. -/
theorem pollThreshold_congr {thr : Byte} {s s' t : State} (hregs : SameEdgeDetector s s') (hraw : s'.raw = s.raw)
    (h : pollThreshold thr s = .next t) :
    ∃ t', pollThreshold thr s' = .next t' ∧ t'.rsp = t.rsp ∧ SameEdgeDetector t t' := by
  obtain ⟨hlt, rfl⟩ := pollThreshold_inv thr s t h
  obtain ⟨hres, harmed, hpassed, -⟩ := State.edge_congr hregs hraw .photo
  obtain ⟨-, -, hcount⟩ := hregs
  refine ⟨_, pollThreshold_next thr s' (hcount ▸ hlt), ?_, harmed, hpassed, ?_⟩
  · rw [State.ret_rsp, State.ret_rsp, hres, hcount]
  · rw [State.ret_count, State.ret_count, hres, hcount]

/-- Settles O60: LEVEL is one activity test, POLL and POLLT are one Edge step and, on the photo line, the count. -/
theorem edgeResultsIgnoreOtherUnits : Obligations.EdgeResultsIgnoreOtherUnits := by
  intro i s s' t hi hregs hraw h
  rcases hi with ⟨l, rfl⟩ | ⟨l, rfl⟩ | ⟨thr, rfl⟩
  · cases h
    exact ⟨_, rfl, congrArg boolByte (State.active_fst_congr hraw l), hregs⟩
  · by_cases hl : l = .photo
    · subst hl
      exact pollThreshold_congr (thr := 1#8) hregs hraw h
    · obtain rfl := Host.Outcome.next.inj ((execPoll_of_ne_photo hl s).symm.trans h)
      obtain ⟨hres, hedge⟩ := State.edge_congr hregs hraw l
      exact ⟨_, execPoll_of_ne_photo hl s', congrArg boolByte hres, hedge⟩
  · exact pollThreshold_congr hregs hraw h

/-! ## The external DC-motor driver (R65, R66) -/

/-- Settles O16: from BCLK low the clock-reset sequence commits what the move drives; reset refuses the move. -/
theorem externalDriverMove : Obligations.ExternalDriverMove := by
  intro s rest pat hi
  refine ⟨fun hvalid hrst hlow => ?_, fun hrst => ?_⟩
  · have hstep : step s = .next (({ s with inputs := rest, rspValid := false } : State).externalDrive pat) := by
      rw [step_eq_takeInput (.inl hvalid) hi]
      exact if_neg (by simp [hrst])
    exact ⟨_, hstep, by simp [State.externalDrive], State.clockReset_dcmQ hlow, by simp [State.externalDrive],
      State.clockReset_coilQ hlow, rfl, by simp [State.externalDrive], by simp [State.externalDrive, SameEdgeDetector],
      by simp [State.externalDrive, SameDisplay]⟩
  · rw [step_eq_takeInput (.inr (.inr hrst)) hi]
    exact if_pos hrst

/-! ## Drives and activity tests (R53 to R55) -/

/-- Settles O25: by the port driven; a write of the level a line holds is no rising edge, so it commits nothing. -/
theorem driveSetsItsPort : Obligations.DriveSetsItsPort := by
  intro s
  refine ⟨fun d => ?_, ?_, ?_, ?_⟩
  · cases d <;> exact ⟨rfl, rfl, rfl, rfl, rfl, rfl⟩
  all_goals simp [State.drive, State.setPort, State.writeEvents, State.log]

/-- Settles O27: the active level is 1 on the toggle line and 0 on the other three. -/
theorem activeUsesPolarity : Obligations.ActiveUsesPolarity := by
  intro s
  simp only [State.active_fst, active_level_eq]
  exact ⟨rfl, rfl, rfl, rfl, fun l => State.active_snd l s⟩

end Sys2Proof.Machine

-- The command encoding: round trips, the rows, reserved words, responses (spec/30_encoding.md)
namespace Sys2Proof.Machine

/-! ## Round trips (R81 to R89, R93) -/

/-- Settles O1: an operation's word selects its own row, and that row's slices are the operands. -/
theorem decodeOfEncode : Obligations.DecodeOfEncode := decode_encode

theorem rowSelects_iff (w : CommandWord) (o : Opcode) : rowSelects w o = true ↔ w &&& opcodeMask o = opcodeMatch o :=
  beq_iff_eq

/-- How many bits, from bit 0 up, a row leaves to its operands (the fields of R83 to R87). -/
def operandWidth (o : Opcode) : Nat :=
  match o with
  | .level => 2
  | .poll => 2
  | .pollt => 8
  | .step => 1
  | .stop => 0
  | .refresh => 18
  | .digit => 4

/-- A row's mask covers every bit above its operands (R88). -/
theorem opcodeMask_getLsbD_of_le {o : Opcode} {j : Nat} (hj : j < 24) (hle : operandWidth o ≤ j) :
    (opcodeMask o).getLsbD j = true := by
  revert j
  cases o <;> decide

/-- Two words that a row selects agree above its operands. -/
theorem getLsbD_eq_of_rowSelects {w v : CommandWord} {o : Opcode} (hw : rowSelects w o = true) (hv : rowSelects v o = true)
    {j : Nat} (hj : j < 24) (hle : operandWidth o ≤ j) : w.getLsbD j = v.getLsbD j := by
  have hand : w &&& opcodeMask o = v &&& opcodeMask o :=
    ((rowSelects_iff w o).1 hw).trans ((rowSelects_iff v o).1 hv).symm
  simpa [opcodeMask_getLsbD_of_le hj hle] using congrArg (·.getLsbD j) hand

theorem getLsbD_eq_of_slice_eq {w v : CommandWord} {a n j : Nat} (h : w.extractLsb' a n = v.extractLsb' a n)
    (ha : a ≤ j) (hn : j < a + n) : w.getLsbD j = v.getLsbD j := by
  have hbit := congrArg (·.getLsbD (j - a)) h
  have hlt : j - a < n := by omega
  simpa [BitVec.getLsbD_extractLsb', hlt, Nat.add_sub_cancel' ha] using hbit

theorem getLsbD_eq_of_low_slice_eq {w v : CommandWord} {n j : Nat} (h : w.extractLsb' 0 n = v.extractLsb' 0 n) (hj : j < n) :
    w.getLsbD j = v.getLsbD j :=
  getLsbD_eq_of_slice_eq h j.zero_le (by omega)

theorem lineOfBits_injective : Function.Injective lineOfBits :=
  Function.LeftInverse.injective lineBits_lineOfBits

/-- The slices a row reads cover all of its operand bits (R83 to R87, R89). -/
theorem getLsbD_eq_of_operandsOf_eq {w v : CommandWord} {o : Opcode} (h : operandsOf o w = operandsOf o v)
    {j : Nat} (hj : j < operandWidth o) : w.getLsbD j = v.getLsbD j := by
  cases o with
  | level => exact getLsbD_eq_of_low_slice_eq (lineOfBits_injective (Instr.level.inj h)) hj
  | poll => exact getLsbD_eq_of_low_slice_eq (lineOfBits_injective (Instr.poll.inj h)) hj
  | pollt => exact getLsbD_eq_of_low_slice_eq (Instr.pollt.inj h) hj
  | step =>
    obtain rfl : j = 0 := Nat.lt_one_iff.1 hj
    exact Instr.step.inj h
  | stop => exact absurd hj j.not_lt_zero
  | refresh =>
    obtain ⟨hlp, hrp, hld, hrd⟩ := Instr.refresh.inj h
    have hfield : j < 8 ∨ (8 ≤ j ∧ j < 16) ∨ j = 16 ∨ j = 17 := by
      simp only [operandWidth] at hj
      omega
    rcases hfield with hlow | ⟨hge, hlt⟩ | rfl | rfl
    · exact getLsbD_eq_of_low_slice_eq hrp hlow
    · exact getLsbD_eq_of_slice_eq hlp hge hlt
    · exact hrd
    · exact hld
  | digit => exact getLsbD_eq_of_low_slice_eq (Instr.digit.inj h) hj

/-- Among the words a row selects, the operands fix the word: each bit is the row's or an operand's. -/
theorem eq_of_rowSelects_of_operandsOf_eq {w v : CommandWord} {o : Opcode} (hw : rowSelects w o = true)
    (hv : rowSelects v o = true) (hops : operandsOf o w = operandsOf o v) : w = v := by
  refine BitVec.eq_of_getLsbD_eq fun j hj => ?_
  rcases Nat.lt_or_ge j (operandWidth o) with hlt | hge
  · exact getLsbD_eq_of_operandsOf_eq hops hlt
  · exact getLsbD_eq_of_rowSelects hw hv hj hge

theorem opcodeOf_operandsOf (o : Opcode) (w : CommandWord) : opcodeOf (operandsOf o w) = o := by
  cases o <;> rfl

/-- Settles O2: the word and the encoder's are selected by one row with the same operands there. -/
theorem encodeOfDecode : Obligations.EncodeOfDecode := by
  intro w i h
  obtain ⟨o, -, hw, rfl⟩ := decode_ok w i h
  have henc := rowSelects_encode (operandsOf o w)
  have hops := operandsOf_encode (operandsOf o w)
  rw [opcodeOf_operandsOf] at henc hops
  exact eq_of_rowSelects_of_operandsOf_eq henc hw hops

/-! ## The rows and the reserved words (R88, R94) -/

/-- Settles O3: rows differ in bits 23..20, and the decoder looks for a row that selects. -/
theorem decodeAcceptsExactlyTheRows : Obligations.DecodeAcceptsExactlyTheRows := by
  simp only [Obligations.DecodeAcceptsExactlyTheRows, ← rowSelects_iff]
  refine ⟨fun w o o' h h' => ?_, fun w => ⟨?_, ?_⟩⟩
  · exact opField_opcodeMatch_injective ((opField_of_rowSelects h).symm.trans (opField_of_rowSelects h'))
  · rintro ⟨i, hi⟩
    obtain ⟨o, -, ho, -⟩ := decode_ok w i hi
    exact ⟨o, ho⟩
  · rintro ⟨o, ho⟩
    exact ⟨_, decode_of_rowSelects ho⟩

/-- A word is reserved when no row selects it, and its op field alone tells the reason (R94). -/
theorem decode_eq_error_iff (w : CommandWord) (why : Reject) :
    decode w = .error why ↔ (∀ o, ¬ rowSelects w o = true) ∧
      why = if opField w = 0#4 ∨ 8#4 ≤ opField w then .reservedOpcode else .nonzeroPadding := by
  cases hf : opcodeRows.find? (rowSelects w) with
  | some o => exact iff_of_false (by simp [decode, hf]) fun ⟨hrows, _⟩ => hrows o (List.find?_some hf)
  | none =>
    have hrows : ∀ o, ¬ rowSelects w o = true := fun o => List.find?_eq_none.1 hf o (mem_opcodeRows o)
    simp only [decode, hf, Except.error.injEq, eq_comm (b := why), and_iff_right hrows]

/-- The rows' opcodes are 0x1 to 0x7 (R88). -/
theorem not_rowSelects_of_opField_reserved {w : CommandWord} (h : opField w = 0#4 ∨ 8#4 ≤ opField w) (o : Opcode) :
    ¬ rowSelects w o = true := by
  intro ho
  rw [opField_of_rowSelects ho] at h
  revert h
  cases o <;> decide

/-- Settles O4: an op field of no row excludes every row, so the reasons exclude each other. -/
theorem reservedWordsByReason : Obligations.ReservedWordsByReason := by
  intro w
  have hnot : ¬ (opField w = 0#4 ∨ 8#4 ≤ opField w) ↔ opField w ≠ 0#4 ∧ opField w < 8#4 := by
    rw [not_or, BitVec.not_le]
  simp only [ne_eq, ← rowSelects_iff, decode_eq_error_iff]
  change (_ ↔ opField w = 0#4 ∨ 8#4 ≤ opField w) ∧ (_ ↔ (opField w ≠ 0#4 ∧ opField w < 8#4) ∧ _)
  rw [← hnot]
  by_cases hop : opField w = 0#4 ∨ 8#4 ≤ opField w
  · simpa [hop] using not_rowSelects_of_opField_reserved hop
  · simp [hop]

/-! ## Responses (R91) -/

theorem boolByte_eq_zero_or_one (b : Bool) : boolByte b = 0#8 ∨ boolByte b = 1#8 := by
  cases b
  · exact .inl rfl
  · exact .inr rfl

theorem exec_rspValid {i : Instr} {s t : State} (h : exec i s = .next t) : t.rspValid = true := by
  rcases exec_inv i s t h with ⟨l, -, rfl⟩ | ⟨l, -, -, rfl⟩ | ⟨thr, -, -, rfl⟩ | ⟨rev, -, rfl⟩ | ⟨-, rfl⟩ |
    ⟨lp, rp, ld, rd, -, rfl⟩ | ⟨d, -, ⟨v, -, rfl⟩ | ⟨-, rfl⟩⟩
  all_goals rfl

/-- Settles O58: every operation ends in a Return, of a widened Boolean or of 0; DIGIT's may be any byte. -/
theorem responseOfEachOperation : Obligations.ResponseOfEachOperation := by
  intro i s t h
  refine ⟨exec_rspValid h, exec_cmdReady h, ?_⟩
  rcases exec_inv i s t h with ⟨l, rfl, rfl⟩ | ⟨l, -, rfl, rfl⟩ | ⟨thr, rfl | ⟨rfl, -⟩, -, rfl⟩ | ⟨rev, rfl, rfl⟩ |
    ⟨rfl, rfl⟩ | ⟨lp, rp, ld, rd, rfl, rfl⟩ | ⟨d, rfl, -⟩
  · exact boolByte_eq_zero_or_one _
  · exact boolByte_eq_zero_or_one _
  · exact boolByte_eq_zero_or_one _
  · exact boolByte_eq_zero_or_one _
  · rfl
  · rfl
  · rfl
  · trivial

/-! ## Listed words, the assembler's defaults, the refusal (R88, R90, R94) -/

/-- Settles O5: eight words are their operations' encodings; the other three are reserved. -/
theorem decodeOfListedWords : Obligations.DecodeOfListedWords :=
  ⟨decode_encode (.level .tactB), decode_encode (.poll .tactA), decode_encode (.pollt 255#8), decode_encode (.step true),
    decode_encode .stop, decode_encode (.refresh 0x4F#8 0x07#8 false true), decode_encode (.refresh 0x80#8 0x00#8 true false),
    decode_encode (.digit 15#4), (reservedWordsByReason 0x000000#24).1.2 (by decide),
    (reservedWordsByReason 0xF00000#24).1.2 (by decide),
    (reservedWordsByReason 0x640000#24).2.2 ⟨by decide, fun o => by cases o <;> decide⟩⟩

/-- Settles O6: the default stands where the operand is `none`. -/
theorem assemblerDefaults : Obligations.AssemblerDefaults := fun _ _ _ => ⟨rfl, rfl, rfl⟩

/-- Settles O8: the word is transferred, and decoding it fails before anything is performed. -/
theorem stepRefusesReservedWords : Obligations.StepRefusesReservedWords := by
  intro s why hvalid hready hrst hdecode
  have ht : s.takesCommand = true := (takesCommand_iff s).2 ⟨hvalid, hready, hrst⟩
  simp only [step, ht, if_true, runCommand, hdecode]

end Sys2Proof.Machine

-- Edge Detector: LEVEL, POLL, POLLT and the laws of their runs (spec/40_edge_detector.md)
namespace Sys2Proof.Machine

/-! ## The Edge step by the line's activity (R53, R112, R113) -/

section EdgeStep

variable (l : Line) (s : State)

theorem State.active_eq : s.active l = (activityOf s l, s.log (.sample l (s.raw.get l))) := by
  rw [← active_level_eq]
  rfl

theorem State.edge_eq_of_activity :
    s.edge l = (activityOf s l && s.armed.get l,
      { s with
        armed := s.armed.set l (!activityOf s l)
        passedState := if l = .photo then activityOf s l else s.passedState
        trace := s.trace ++ [.wait .deb, .sample l (s.raw.get l)] }) := by
  rw [State.edge_eq, active_level_eq]

theorem State.edge_fst : (s.edge l).1 = (activityOf s l && s.armed.get l) := by
  rw [State.edge_eq_of_activity]

theorem State.edge_armed_get_self : (s.edge l).2.armed.get l = !activityOf s l := by
  rw [State.edge_eq_of_activity]
  exact LineBits.get_set_self s.armed l _

theorem State.edge_passedState :
    (s.edge l).2.passedState = if l = .photo then activityOf s l else s.passedState := by
  rw [State.edge_eq_of_activity]

end EdgeStep

/-- Settles O30: the rows are the two equations of the result and the bit, read at each activity and each `armed`. -/
theorem edgeTransitionTable : Obligations.EdgeTransitionTable := by
  intro l s
  refine ⟨by rw [State.edge_eq], ?_, fun l' hl' => s.edge_armed_get_of_ne hl', fun hl => ?_, ?_, ?_⟩
  · rintro a m ha hm
    rw [State.edge_armed_get_self, State.edge_fst, ha, hm]
    refine ⟨?_, ?_, ?_, ?_⟩
    all_goals
      rintro rfl rfl
      exact ⟨rfl, rfl⟩
  · rw [State.edge_passedState, if_neg hl]
  · rw [State.edge_passedState, if_pos rfl]
  · rw [State.edge_eq]

/-- Settles O31: the activity of the photo line is its negated level, and the bit becomes the negated activity. -/
theorem photoEdgeWritesPassedState : Obligations.PhotoEdgeWritesPassedState := by
  intro s
  have hpassed : (s.edge .photo).2.passedState = activityOf s .photo := by rw [State.edge_passedState, if_pos rfl]
  have harmed : (s.edge .photo).2.armed.photo = !activityOf s .photo := s.edge_armed_get_self .photo
  exact ⟨hpassed, by rw [hpassed, harmed, Bool.not_not]⟩

/-! ## LEVEL and POLL (R110, R114) -/

/-- Settles O29: the activity test is the whole operation; the word has the line in its low two bits. -/
theorem levelReturnsActivity : Obligations.LevelReturnsActivity := by
  intro l s
  refine ⟨?_, by cases l <;> rfl⟩
  rw [exec, execLevel, State.active_eq]
  rfl

/-- Settles O32: POLL returns its Edge step's result, which leaves `passed_state` alone off the photo line. -/
theorem pollReturnsTheEdge : Obligations.PollReturnsTheEdge := by
  intro l s
  refine ⟨fun hl => ?_, by cases l <;> rfl⟩
  rw [exec, execPoll_of_ne_photo hl, State.edge_eq_of_activity, if_neg hl]
  rfl

/-! ## POLLT and the Rotation Counter (R115, R116, R118, R120) -/

/-- Settles O34: the Edge step of the photo line, then the counter's step, which leave the rest of the state alone. -/
theorem polltCountsRawEdges : Obligations.PolltCountsRawEdges := by
  rintro thr s a e hdomain rfl rfl
  rw [exec, execPollt, pollThreshold_next thr s hdomain, countStep_eq, State.edge_eq_of_activity]
  rfl

theorem toNat_add_one_of_lt {count thr : Byte} (h : count.toNat < thr.toNat) : (count + 1#8).toNat = count.toNat + 1 :=
  BitVec.toNat_add_of_lt (Nat.lt_of_le_of_lt (Nat.succ_le_of_lt h) thr.isLt)

/-- Settles O35: `count < thr` makes at-least and equality one condition, and the sum at most `thr`. -/
theorem countSumFitsAByte : Obligations.CountSumFitsAByte := by
  intro e count thr hdomain
  have hthr : thr.toNat ≤ 255 := Nat.le_of_lt_succ thr.isLt
  have hreach : thr.toNat ≤ count.toNat + 1 ↔ count.toNat + 1 = thr.toNat := by omega
  refine ⟨hdomain, hthr, toNat_add_one_of_lt hdomain, ?_⟩
  rw [countStep_eq]
  cases e with
  | false => rfl
  | true => by_cases hc : count.toNat + 1 = thr.toNat <;> simp [hreach, hc]

theorem pollThreshold_zero (s : State) : pollThreshold 0#8 s = .refused .thresholdZero := if_pos rfl

theorem pollThreshold_of_le_count {thr : Byte} {s : State} (hne : thr ≠ 0#8) (hcount : thr.toNat ≤ s.count.toNat) :
    pollThreshold thr s = .refused .countNotBelowThreshold :=
  (if_neg hne).trans (if_pos hcount)

/-- Settles O37: the threshold is checked first, then the count. -/
theorem polltRefusedOutsideDomain : Obligations.PolltRefusedOutsideDomain := by
  intro thr s
  refine ⟨?_, pollThreshold_of_le_count⟩
  rintro rfl
  exact pollThreshold_zero s

/-- Settles O33: both run the poll with threshold 1, whose domain a count above 0 leaves. -/
theorem pollPhotoIsPolltOne : Obligations.PollPhotoIsPolltOne :=
  fun _ => ⟨rfl, fun hcount => pollThreshold_of_le_count (thr := 1#8) (by decide) hcount⟩

/-! ## Runs of polls (R119, R121, R123) -/

theorem activityOf_presentLevel (l : Line) (a : Bool) (s : State) :
    activityOf (s.presentLevel l (levelOf l a)) l = a := by
  rw [← active_level_eq, State.presentLevel_raw, LineBits.get_set_self, levelOf_active]

theorem pollRun_cons {i : Instr} {l : Line} {a : Bool} {s u t : State} {as rs : List Bool}
    (hexec : exec i (s.presentLevel l (levelOf l a)) = .next u) (hrest : pollRun i l as u = some (rs, t)) :
    pollRun i l (a :: as) s = some (u.rsp.getLsbD 0 :: rs, t) := by
  simp [pollRun, hexec, hrest]

/-- A run sets raw lines between its operations, and no operation writes the surroundings. -/
theorem pollRun_surroundings {i : Instr} {l : Line} (as : List Bool) :
    ∀ {s t : State} {rs : List Bool}, pollRun i l as s = some (rs, t) → SameSurroundings { s with raw := t.raw } t := by
  induction as with
  | nil =>
    rintro s t rs ⟨⟩
    exact ⟨rfl, rfl, rfl, rfl, rfl, rfl, rfl⟩
  | cons a as ih =>
    intro s t rs h
    cases hexec : exec i (s.presentLevel l (levelOf l a)) with
    | next u =>
      simp only [pollRun, hexec, Option.map_eq_some_iff] at h
      obtain ⟨⟨rs', t'⟩, hrest, heq⟩ := h
      obtain rfl : t' = t := congrArg Prod.snd heq
      obtain ⟨hparams, -, hrst, hcmd, hvalid, hplan, hinputs⟩ := exec_surroundings i _ u hexec
      obtain ⟨hparams', -, hrst', hcmd', hvalid', hplan', hinputs'⟩ := ih hrest
      exact ⟨hparams'.trans hparams, rfl, hrst'.trans hrst, hcmd'.trans hcmd, hvalid'.trans hvalid,
        hplan'.trans hplan, hinputs'.trans hinputs⟩
    | fault f => simp [pollRun, hexec] at h
    | refused r => simp [pollRun, hexec] at h

/-- One POLL of a run: the result, and the bit it leaves for the next (R112, R114). -/
theorem exec_poll_of_activity {l : Line} (hl : l ≠ .photo) (a : Bool) (s : State) :
    ∃ u, exec (.poll l) (s.presentLevel l (levelOf l a)) = .next u ∧
      u.rsp.getLsbD 0 = (a && s.armed.get l) ∧ u.armed.get l = !a := by
  refine ⟨_, execPoll_of_ne_photo hl _, ?_, ?_⟩
  · rw [State.ret_rsp, boolByte_lsb, State.edge_fst, activityOf_presentLevel, State.presentLevel_armed]
  · rw [State.ret_armed, State.edge_armed_get_self, activityOf_presentLevel]

/-- `armed` is the negated activity of the sample before, which is what the one-shot law remembers. -/
theorem pollRun_poll_eq_oneShot {l : Line} (hl : l ≠ .photo) (as : List Bool) :
    ∀ s : State, ∃ t, pollRun (.poll l) l as s = some (oneShot (!s.armed.get l) as, t) := by
  induction as with
  | nil => exact fun s => ⟨s, rfl⟩
  | cons a as ih =>
    intro s
    obtain ⟨u, hexec, hrsp, harmed⟩ := exec_poll_of_activity hl a s
    obtain ⟨t, hrest⟩ := ih u
    refine ⟨t, ?_⟩
    rw [pollRun_cons hexec hrest, hrsp, harmed, oneShot, Bool.not_not, Bool.not_not]

/-- Settles O39, by induction over the samples; the surroundings are those of every run. -/
theorem oneShotLaw : Obligations.OneShotLaw := by
  intro l as s hl
  obtain ⟨t, ht⟩ := pollRun_poll_eq_oneShot hl as s
  exact ⟨t, ht, pollRun_surroundings as ht⟩

/-- Samples of the activity before them give no edge. -/
theorem oneShot_replicate_append (p : Bool) (n : Nat) (as : List Bool) :
    oneShot p (List.replicate n p ++ as) = List.replicate n false ++ oneShot p as := by
  induction n with
  | zero => rfl
  | succ n ih => rw [List.replicate_succ, List.cons_append, oneShot, ih, Bool.and_not_self]; rfl

theorem oneShot_replicate_false (p : Bool) (n : Nat) :
    oneShot p (List.replicate n false) = List.replicate n false := by
  induction n generalizing p with
  | zero => rfl
  | succ n ih => rw [List.replicate_succ, oneShot, ih, Bool.false_and]

/-- Settles O40: of the pulse's samples only the first active one differs from the one before it and is active. -/
theorem pulseLaw : Obligations.PulseLaw := by
  intro l m n k s hl harmed
  obtain ⟨t, ht⟩ := pollRun_poll_eq_oneShot hl
    (List.replicate m false ++ List.replicate (n + 1) true ++ List.replicate k false) s
  refine ⟨t, ht.trans ?_⟩
  rw [harmed, Bool.not_true, List.append_assoc, oneShot_replicate_append, List.replicate_succ, List.cons_append, oneShot,
    oneShot_replicate_append, oneShot_replicate_false, List.append_assoc]
  rfl

/-- One POLLT of a run inside the domain: the result, and what it leaves for the next (R112, R116). -/
theorem exec_pollt_of_activity {thr : Byte} (a : Bool) {s : State} (hdomain : s.count.toNat < thr.toNat) :
    ∃ u, exec (.pollt thr) (s.presentLevel .photo (levelOf .photo a)) = .next u ∧
      u.rsp.getLsbD 0 = (countStep (a && s.armed.photo) s.count thr).1 ∧ u.armed.photo = !a ∧
      u.count = (countStep (a && s.armed.photo) s.count thr).2 := by
  have hedge : ((s.presentLevel .photo (levelOf .photo a)).edge .photo).1 = (a && s.armed.photo) := by
    rw [State.edge_fst, activityOf_presentLevel]
    rfl
  refine ⟨_, pollThreshold_next thr _ hdomain, ?_, ?_, ?_⟩
  · rw [State.ret_rsp, boolByte_lsb, hedge, State.presentLevel_count]
  · exact (State.edge_armed_get_self .photo _).trans (congrArg _ (activityOf_presentLevel .photo a s))
  · rw [State.ret_count, hedge, State.presentLevel_count]

/-- With the count at `k` modulo the threshold, the counter's step is that of `k` (R118, R119). -/
theorem countStep_of_mod (e : Bool) {count thr : Byte} {k : Nat} (hthr : 0 < thr.toNat)
    (hcount : count.toNat = k % thr.toNat) :
    (countStep e count thr).1 = (e && (k + 1) % thr.toNat == 0) ∧
      (countStep e count thr).2.toNat = (if e then k + 1 else k) % thr.toNat := by
  have hlt : count.toNat < thr.toNat := hcount ▸ Nat.mod_lt k hthr
  have hnext : (k + 1) % thr.toNat = (count.toNat + 1) % thr.toNat := by rw [hcount, Nat.mod_add_mod]
  have hsum : (count + 1#8).toNat = count.toNat + 1 := toNat_add_one_of_lt hlt
  rw [countStep_eq]
  cases e with
  | false => exact ⟨rfl, hcount⟩
  | true =>
    by_cases hreach : count.toNat + 1 = thr.toNat
    · simp [hnext, hreach]
    · have hmod : (count.toNat + 1) % thr.toNat = count.toNat + 1 := Nat.mod_eq_of_lt (by omega)
      simp [hnext, hmod, hreach, hsum]

/-- After `k` raw edges the count is `k` modulo the threshold; a run keeps that and answers as the edges' numbers say. -/
theorem pollRun_pollt_eq_everyNth {thr : Byte} (hthr : 0 < thr.toNat) (as : List Bool) :
    ∀ (k : Nat) (s : State), s.count.toNat = k % thr.toNat →
      ∃ t, pollRun (.pollt thr) .photo as s = some (everyNth thr.toNat k (oneShot (!s.armed.photo) as), t) ∧
        t.count.toNat = (k + ((oneShot (!s.armed.photo) as).filter id).length) % thr.toNat := by
  induction as with
  | nil => exact fun k s hcount => ⟨s, rfl, hcount⟩
  | cons a as ih =>
    intro k s hcount
    obtain ⟨u, hexec, hrsp, harmed, hucount⟩ := exec_pollt_of_activity a (hcount ▸ Nat.mod_lt k hthr)
    obtain ⟨hreached, hnext⟩ := countStep_of_mod (a && s.armed.photo) hthr hcount
    obtain ⟨t, hrest, htcount⟩ := ih _ u (hucount ▸ hnext)
    rw [harmed, Bool.not_not] at hrest htcount
    rw [oneShot, Bool.not_not]
    refine ⟨t, ?_, ?_⟩
    · rw [pollRun_cons hexec hrest, hrsp, hreached, everyNth]
    · rw [htcount]
      cases a && s.armed.photo with
      | false => simp
      | true => simp [Nat.add_assoc, Nat.add_comm 1]

/-- Settles O41: the run's law from no edge counted. -/
theorem countingLaw : Obligations.CountingLaw := by
  intro thr as s hne hzero
  have hthr : 0 < thr.toNat := Nat.pos_of_ne_zero fun h => hne (BitVec.eq_of_toNat_eq h)
  obtain ⟨t, hrun, hcount⟩ := pollRun_pollt_eq_everyNth hthr as 0 s (by simp [hzero])
  exact ⟨t, hrun, by rwa [Nat.zero_add] at hcount⟩

end Sys2Proof.Machine

-- Phase Sequencer: the clock-reset sequence, STEP, STOP and runs of STEPs (spec/41_phase_sequencer.md)
namespace Sys2Proof.Machine

/-! ## One operation (R140 to R144, R146, R151) -/

/-- Settles O26: BCLK low makes the raise a rising edge, the one commit of the sequence. -/
theorem clockResetSequence : Obligations.ClockResetSequence := State.clockReset_of_low

/-- Settles O42: the clock-reset sequence commits what two drives put on COIL and DCM; a zero fits any number of DC-motor lines. -/
theorem stepEmitsThePattern : Obligations.StepEmitsThePattern := by
  rintro rev s pat hlow rfl
  rw [exec, execStep, State.drive_coil, State.drive_dcm, State.clockReset_of_low, stepPattern_eq, storedPhase_nextPhase,
    Nat.zero_mod]
  · simp [State.wait, State.log, State.ret]
  · exact hlow

/-- Settles O47: one drive, then the clock-reset sequence, which commits DCM too. -/
theorem stopZeroesTheCoils : Obligations.StopZeroesTheCoils := by
  intro s hlow
  rw [exec, execStop, State.drive_coil, State.clockReset_of_low]
  · simp [State.ret]
  · exact hlow

/-- Settles O43: `r(p)` fixes 1 and 3 and exchanges 2 and 4. -/
theorem reverseExchangesTwoAndFour : Obligations.ReverseExchangesTwoAndFour :=
  fun _ => ⟨⟨rfl, rfl, rfl, rfl⟩, rfl, rfl, rfl, rfl⟩

/-! ## What a STEP commits, alone and after a STOP (R147, R148) -/

theorem popcount_of_coilsHot {pr : Params} {v : Nibble} (hhot : pr.coilsHot = true) (hv : v ∈ pr.coilPat) :
    popcount v = 1 ∨ popcount v = 2 := by
  have hmem : v ∈ pr.coilPat.toList := Vector.mem_toList_iff.2 hv
  rw [Params.coilsHot, Bool.or_eq_true, List.all_eq_true, List.all_eq_true] at hhot
  rcases hhot with hone | htwo
  · exact .inl (beq_iff_eq.1 (hone v hmem))
  · exact .inr (beq_iff_eq.1 (htwo v hmem))

theorem coilsHot_of_wellFormed {pr : Params} (h : pr.wellFormed = true) : pr.coilsHot = true := by
  simp only [Params.wellFormed, Bool.and_eq_true] at h
  obtain ⟨⟨⟨-, hhot⟩, -⟩, -⟩ := h
  exact hhot

/-- Settles O46: the committed pattern is an entry of the coil table. -/
theorem committedStepIsOneOrTwoHot : Obligations.CommittedStepIsOneOrTwoHot := by
  intro rev s t hparams hlow hexec
  obtain ⟨hcoil, -, -⟩ := exec_step_commits hlow hexec
  have hmem : t.coilQ ∈ s.params.coilPat := hcoil ▸ stepPattern_mem s.params rev _
  exact ⟨hmem, popcount_of_coilsHot (coilsHot_of_wellFormed hparams) hmem⟩

theorem performAll_pair {i j : Instr} {s t u : State} (hi : exec i s = .next t) (hj : exec j t = .next u) :
    performAll [i, j] s = .next u := by
  simp [performAll, andThen, hi, hj]

/-- Settles O48: a STOP writes neither the table nor the counter, and leaves BCLK low for the STEP after it. -/
theorem stepAfterStopResumes : Obligations.StepAfterStopResumes := by
  intro rev s hlow
  have hboth := performAll_pair (stopZeroesTheCoils s hlow) (stepEmitsThePattern rev _ _ rfl rfl)
  exact ⟨_, _, hboth, stepEmitsThePattern rev s _ hlow rfl, rfl, rfl, rfl⟩

/-! ## Runs of STEPs (R143, R145, R149) -/

theorem stepRun_cons {rev : Bool} {revs : List Bool} {s u t : State} {ps : List Nibble}
    (hexec : exec (.step rev) s = .next u) (hrest : stepRun revs u = some (ps, t)) :
    stepRun (rev :: revs) s = some (u.coilQ :: ps, t) := by
  simp [stepRun, hexec, hrest]

/-- One STEP of a run with the counter at `c` modulo 4: the pattern, and what it leaves for the next (R142, R143). -/
theorem exec_step_of_mod {c : Nat} (rev : Bool) {s : State} (hlow : s.bclk = false) (hctr : s.phaseCtr.toNat = c % 4) :
    ∃ u, exec (.step rev) s = .next u ∧ u.coilQ = stepPattern s.params rev (c % 4 + 1) ∧ u.params = s.params ∧
      u.bclk = false ∧ u.phaseCtr.toNat = (c + 1) % 4 := by
  refine ⟨_, stepEmitsThePattern rev s _ hlow rfl, ?_, rfl, rfl, ?_⟩
  · rw [← stepPattern_eq, nextPhase, hctr]
  · rw [BitVec.toNat_add, hctr]
    exact Nat.mod_add_mod c 4 1

/-- With the counter at `c` modulo 4 a run commits the patterns from number `c` on, and counts its STEPs. -/
theorem stepRun_eq_cyclePatterns (revs : List Bool) :
    ∀ (c : Nat) (s : State), s.bclk = false → s.phaseCtr.toNat = c % 4 →
      ∃ t, stepRun revs s = some (cyclePatterns s.params c revs, t) ∧ t.phaseCtr.toNat = (c + revs.length) % 4 := by
  induction revs with
  | nil => exact fun c s _ hctr => ⟨s, rfl, hctr⟩
  | cons rev revs ih =>
    intro c s hlow hctr
    obtain ⟨u, hexec, hcoil, hparams, hulow, huctr⟩ := exec_step_of_mod rev hlow hctr
    obtain ⟨t, hrest, htctr⟩ := ih (c + 1) u hulow huctr
    refine ⟨t, ?_, ?_⟩
    · rw [stepRun_cons hexec hrest, hcoil, hparams, cyclePatterns]
    · rw [htctr, List.length_cons, Nat.add_assoc, Nat.add_comm 1]

/-- Settles O44: the run's law from the counter as it stands. -/
theorem stepCycleLaw : Obligations.StepCycleLaw :=
  fun revs s hlow => stepRun_eq_cyclePatterns revs _ s hlow (Nat.mod_eq_of_lt s.phaseCtr.isLt).symm

/-- Settles O45: the run's law from counter 0, its patterns read off the table. -/
theorem fifthStepReturns : Obligations.FifthStepReturns := by
  intro s hlow hzero
  have hrun (revs : List Bool) : ∃ t, stepRun revs s = some (cyclePatterns s.params 0 revs, t) := by
    obtain ⟨t, ht, -⟩ := stepRun_eq_cyclePatterns revs 0 s hlow (by rw [hzero]; rfl)
    exact ⟨t, ht⟩
  exact ⟨hrun [false, false, false, false, false], hrun [true, true, true, true, true]⟩

end Sys2Proof.Machine

-- Display Refresher: the bus value, the strobes, REFRESH, DIGIT and SHOWDEC (spec/42_display_refresher.md)
namespace Sys2Proof.Machine

/-! ## The bus value of a digit (R171, R174) -/

theorem dotMask_getLsbD (pr : Params) (i : Nat) : (dotMask pr).getLsbD i = decide (i = pr.dotBit.val) := by
  rw [dotMask, ← BitVec.twoPow_eq, BitVec.getLsbD_twoPow, decide_eq_true pr.dotBit.isLt, Bool.true_and]
  exact decide_eq_decide.2 eq_comm

@[simp] theorem busVal_false (pr : Params) (pat : Byte) : busVal pr pat false = pat := BitVec.or_zero

/-- Settles O50: the flag adds the one bit of `DOT_MASK`, by OR. -/
theorem busValueOrsTheDot : Obligations.BusValueOrsTheDot := by
  intro pr pat dot i
  cases dot with
  | false => rw [busVal_false, Bool.false_and, Bool.or_false]
  | true => rw [busVal, if_pos rfl, BitVec.getLsbD_or, dotMask_getLsbD, Bool.true_and]

/-! ## REFRESH (R172, R173, R175) -/

/-- With its select line low, a strobe of the left digit commits the value just put on the bus (R173). -/
theorem State.strobeLeft_of_low (v : Byte) {s : State} (h : s.dsl = false) :
    s.strobeLeft v = { s with
      seg := v, dsl := false, digLQ := v
      trace := s.trace ++ [.write (.seg v), .write (.dsl true), .write (.dsl false)] } := by
  rw [State.strobeLeft, State.drive_seg, State.drive_dsl_rise, State.drive_dsl_fall]
  · simp
  · exact h

/-- With its select line low, a strobe of the right digit commits the value just put on the bus (R173). -/
theorem State.strobeRight_of_low (v : Byte) {s : State} (h : s.dsr = false) :
    s.strobeRight v = { s with
      seg := v, dsr := false, digRQ := v
      trace := s.trace ++ [.write (.seg v), .write (.dsr true), .write (.dsr false)] } := by
  rw [State.strobeRight, State.drive_seg, State.drive_dsr_rise, State.drive_dsr_fall]
  · simp
  · exact h

/-- The fields of REFRESH's word, each at its shift (R86). -/
theorem encode_refresh (lp rp : Byte) (ld rd : Bool) :
    encode (.refresh lp rp ld rd) =
      0x600000#24 ||| (BitVec.ofBool ld).setWidth 24 <<< 17 ||| (BitVec.ofBool rd).setWidth 24 <<< 16 |||
        lp.setWidth 24 <<< 8 ||| rp.setWidth 24 := by
  rw [← BitVec.setWidth_eq (encode _), encode]
  simp only [BitVec.setWidth_append_eq_shiftLeft_setWidth_or, BitVec.shiftLeft_or_distrib, ← BitVec.shiftLeft_add]
  rfl

/-- Settles O49: each strobe is a rising edge of its own select line, and the wait lies between the two. -/
theorem refreshCommitsBothDigits : Obligations.RefreshCommitsBothDigits := by
  rintro lp rp ld rd s vl vr hleft hright rfl rfl
  refine ⟨?_, encode_refresh lp rp ld rd⟩
  rw [exec, execRefresh, State.strobeLeft_of_low _ hleft, State.strobeRight_of_low]
  · simp [State.wait, State.log, State.ret]
  · exact hright

/-! ## DIGIT (R176, R177) -/

theorem exec_digit_ofNat {k : Nat} (hk : k < 10) (s : State) :
    exec (.digit (BitVec.ofNat 4 k)) s = .next (s.ret s.params.segTable[k]) := by
  have hentry : digitEntry s.params (BitVec.ofNat 4 k) = some s.params.segTable[k] := by
    rw [digitEntry, BitVec.toNat_ofNat, Nat.mod_eq_of_lt (Nat.lt_trans hk (by decide)), Vector.getElem?_eq_getElem hk]
  simp only [exec, execDigit, hentry]

theorem segTable_getLsbD_dotBit {pr : Params} {v : Byte} (h : pr.wellFormed = true) (hv : v ∈ pr.segTable) :
    v.getLsbD pr.dotBit.val = false := by
  simp only [Params.wellFormed, Bool.and_eq_true] at h
  obtain ⟨⟨-, hclear⟩, -⟩ := h
  simpa using List.all_eq_true.1 hclear v (Vector.mem_toList_iff.2 hv)

/-- DIGIT's word has the operand in its low four bits (R87). -/
theorem encode_digit (d : BitVec 4) : encode (.digit d) = 0x700000#24 ||| d.setWidth 24 := by
  rw [← BitVec.setWidth_eq (encode _), encode, BitVec.setWidth_append_eq_shiftLeft_setWidth_or]
  rfl

/-- Settles O51: the operand is an index of the table, whose entries have the point's bit clear. -/
theorem digitReturnsTheTableEntry : Obligations.DigitReturnsTheTableEntry := by
  intro k s
  refine ⟨exec_digit_ofNat k.isLt s, fun h => segTable_getLsbD_dotBit h (Vector.getElem_mem k.isLt), ?_⟩
  rw [encode_digit, BitVec.setWidth_ofNat_of_le_of_lt (by decide : 4 ≤ 24) (Nat.lt_trans k.isLt (by decide))]

/-- Settles O52: there is no entry, so the byte is drawn. -/
theorem digitOutsideTheTable : Obligations.DigitOutsideTheTable := by
  intro d s hd
  simp only [exec, execDigit, digitEntry_of_gt s.params d hd, State.drawByte, State.ret]

/-! ## SHOWDEC (R98, R178) -/

theorem exec_refresh_latches (lp rp : Byte) (ld rd : Bool) {s : State} (hleft : s.dsl = false) (hright : s.dsr = false) :
    ∃ t, exec (.refresh lp rp ld rd) s = .next t ∧ t.digLQ = busVal s.params lp ld ∧ t.digRQ = busVal s.params rp rd := by
  obtain ⟨hexec, -⟩ := refreshCommitsBothDigits lp rp ld rd s _ _ hleft hright rfl rfl
  exact ⟨_, hexec, rfl, rfl⟩

/-- Inside its domain SHOWDEC is a REFRESH of two table entries, after the two responses of DIGIT. -/
theorem showDec_eq_refresh {v : Fin 160} (s : State) (htens : v.val / 10 < 10) (hunits : v.val % 10 < 10) :
    showDec v s = exec (.refresh s.params.segTable[v.val / 10] s.params.segTable[v.val % 10] false false)
      ((s.ret s.params.segTable[v.val / 10]).ret s.params.segTable[v.val % 10]) := by
  simp only [showDec, andThen, exec_digit_ofNat htens, exec_digit_ofNat hunits, State.ret_params, State.ret_rsp]

/-- Settles O53: both digits are indices of the table, and no DIGIT touches the select lines that REFRESH strobes. -/
theorem showDecShowsTwoDigits : Obligations.ShowDecShowsTwoDigits := by
  intro v s hv hleft hright
  have htens : v.val / 10 < 10 := Nat.div_lt_of_lt_mul hv
  have hunits : v.val % 10 < 10 := Nat.mod_lt _ (by decide)
  obtain ⟨t, hexec, hdigL, hdigR⟩ := exec_refresh_latches s.params.segTable[v.val / 10] s.params.segTable[v.val % 10]
    false false (s := (s.ret s.params.segTable[v.val / 10]).ret s.params.segTable[v.val % 10]) hleft hright
  refine ⟨t, (showDec_eq_refresh s htens hunits).trans hexec, ?_, ?_⟩
  · rw [hdigL, busVal_false, Vector.getElem?_eq_getElem htens]
  · rw [hdigR, busVal_false, Vector.getElem?_eq_getElem hunits]

end Sys2Proof.Machine

-- Reset inside an operation, and how long each operation holds the caller (spec/60_exceptions.md)
namespace Sys2Proof.Machine

/-! ## Waits (R210, R212) -/

@[simp] theorem leastDuration_nil : leastDuration [] = 0 := rfl

@[simp] theorem leastDuration_wait (d : Delay) (es : List Event) :
    leastDuration (.wait d :: es) = Config.minCycles d + leastDuration es := List.sum_cons

@[simp] theorem leastDuration_write (d : Drive) (es : List Event) : leastDuration (.write d :: es) = leastDuration es := rfl

@[simp] theorem leastDuration_sample (l : Line) (b : Bool) (es : List Event) :
    leastDuration (.sample l b :: es) = leastDuration es := rfl

@[simp] theorem leastDuration_append (es es' : List Event) :
    leastDuration (es ++ es') = leastDuration es + leastDuration es' := by
  simp [leastDuration, waitsIn]

theorem exec_level_events {l : Line} {s t : State} (h : exec (.level l) s = .next t) :
    t.trace.drop s.trace.length = [.sample l (s.raw.get l)] := by
  cases h
  simp

/-- A poll, of whichever line, is one Edge step: its wait and its sample (R112). -/
theorem exec_poll_events {i : Instr} {s t : State} (hi : (∃ l, i = .poll l) ∨ ∃ thr, i = .pollt thr)
    (h : exec i s = .next t) : ∃ l, t.trace.drop s.trace.length = [.wait .deb, .sample l (s.raw.get l)] := by
  rcases exec_inv i s t h with ⟨l, rfl, -⟩ | ⟨l, -, rfl, rfl⟩ | ⟨thr, -, -, rfl⟩ | ⟨rev, rfl, -⟩ | ⟨rfl, -⟩ |
    ⟨lp, rp, ld, rd, rfl, -⟩ | ⟨d, rfl, -⟩
  · simp at hi
  · exact ⟨l, by simp [State.edge_eq]⟩
  · exact ⟨.photo, by simp [State.edge_eq]⟩
  all_goals simp at hi

/-- The events of a REFRESH before the rising edge of DSR (R172). -/
def refreshRightLead (vl vr : Byte) : List Event :=
  [.write (.seg vl), .write (.dsl true), .write (.dsl false), .wait .bus, .write (.seg vr)]

theorem exec_refresh_events {lp rp : Byte} {ld rd : Bool} {s t : State} (h : exec (.refresh lp rp ld rd) s = .next t) :
    t.trace.drop s.trace.length =
      refreshRightLead (busVal s.params lp ld) (busVal s.params rp rd) ++ .write (.dsr true) :: [.write (.dsr false)] := by
  obtain rfl : _ = t := Host.Outcome.next.inj h
  simp [State.strobeLeft, State.strobeRight, State.writeEvents, refreshRightLead]

theorem exec_digit_events {d : BitVec 4} {s t : State} (h : exec (.digit d) s = .next t) :
    t.trace.drop s.trace.length = [] := by
  rcases execDigit_inv h with ⟨v, rfl⟩ | rfl
  · exact List.drop_length
  · exact List.drop_length

/-- A drive of the DC-motor lines takes no time, where there are such lines and where there are none. -/
theorem leastDuration_stepLead (pr : Params) (pat : Nibble) : leastDuration (stepLead pr pat) = Config.minCycles .clk := by
  by_cases hndc : pr.ndc = 0 <;> simp [stepLead, hndc]

/-- Settles O28: the waits among each operation's events. -/
theorem waitsOfEachOperation : Obligations.WaitsOfEachOperation := by
  intro i s t h
  cases i with
  | level l => simp [exec_level_events h]
  | poll l =>
    obtain ⟨l', hevents⟩ := exec_poll_events (.inl ⟨l, rfl⟩) h
    simp [hevents]
  | pollt thr =>
    obtain ⟨l', hevents⟩ := exec_poll_events (.inr ⟨thr, rfl⟩) h
    simp [hevents]
  | step rev => simp [exec_step_events h, leastDuration_stepLead]
  | stop => simp [exec_stop_events h, stopLead]
  | refresh lp rp ld rd => simp [exec_refresh_events h, refreshRightLead]
  | digit d => simp [exec_digit_events h]

/-! ## An operation that reset cuts short (R204 (c), R230, R237) -/

/-- Where reset is planned, an operation inside its domain is performed and abandoned at that event. -/
theorem step_eq_abandon {s : State} {k : Nat} {i : Instr} (hv : s.cmdValid = true) (hr : s.cmdReady = true)
    (hrst : s.rst = false) (hk : s.rstDuring = some k) (hi : decode s.cmd = .ok i) (hdom : inDomain i s.accept = true) :
    ∃ u, exec i s.accept = .next u ∧ step s = .next (abandon k s.accept u) := by
  obtain ⟨u, hexec⟩ := (exec_completes_iff_inDomain i s.accept).2 hdom
  exact ⟨u, hexec, step_cut_short s u i k ((takesCommand_iff s).2 ⟨hv, hr, hrst⟩) hk hi hexec⟩

theorem abandon_heldInReset (k : Nat) (s u : State) : HeldInReset (abandon k s u) :=
  ⟨abandon_atReset k s u, rfl, rfl, rfl⟩

/-- Replaying events appends them all, where each write of DCM has lines and a value that fits them (R142). -/
theorem replay_trace (es : List Event) : ∀ s : State,
    (∀ v, Event.write (.dcm v) ∈ es → s.params.ndc ≠ 0 ∧ v < 2 ^ s.params.ndc) →
    (es.foldl State.replay s).trace = s.trace ++ es := by
  induction es with
  | nil => exact fun s _ => (List.append_nil _).symm
  | cons e es ih =>
    intro s h
    have hparams : (s.replay e).params = s.params := (replay_keeps_params [e] s).1
    have htrace : (s.replay e).trace = s.trace ++ [e] := by
      cases e with
      | sample l b => rfl
      | wait d => rfl
      | write d =>
        cases d with
        | dcm v =>
          obtain ⟨hndc, hv⟩ := h v List.mem_cons_self
          simp [State.replay, State.writeEvents, hndc, Nat.mod_eq_of_lt hv]
        | _ => rfl
    rw [List.foldl_cons, ih _ fun v hmem => hparams ▸ h v (List.mem_cons_of_mem _ hmem), htrace, List.append_assoc,
      List.singleton_append]

theorem abandon_trace {k : Nat} {s u : State} {es : List Event} (hevents : u.trace.drop s.trace.length = es)
    (hdcm : ∀ v, Event.write (.dcm v) ∈ es → s.params.ndc ≠ 0 ∧ v < 2 ^ s.params.ndc) :
    (abandon k s u).trace = s.trace ++ es.take k := by
  rw [abandon, hevents]
  exact replay_trace _ s fun v hmem => hdcm v (List.mem_of_mem_take hmem)

/-- `latch` is a field of the state that `e` alone among the events can write, and that reset keeps (R35, R36, R237). -/
structure LatchedBy {α : Type} (latch : State → α) (e : Event) : Prop where
  keep : ∀ (s : State) (e' : Event), e' ≠ e → latch (s.replay e') = latch s
  reset : ∀ s : State, latch { s.rstRise with rstDuring := none } = latch s

theorem coilQ_latchedBy : LatchedBy State.coilQ (.write (.bclk true)) :=
  ⟨fun s _ h => (s.replay_keeps_latches h).1, fun _ => rfl⟩

theorem dcmQ_latchedBy : LatchedBy State.dcmQ (.write (.bclk true)) :=
  ⟨fun s _ h => (s.replay_keeps_latches h).2, fun _ => rfl⟩

theorem digLQ_latchedBy : LatchedBy State.digLQ (.write (.dsl true)) := by
  refine ⟨fun s e h => ?_, fun _ => rfl⟩
  cases e with
  | sample l b => rfl
  | wait d => rfl
  | write d =>
    obtain ⟨hleft, -⟩ := digitSelectCommits s d
    exact hleft.trans (if_neg fun ⟨hd, _⟩ => h (by rw [hd]))

theorem digRQ_latchedBy : LatchedBy State.digRQ (.write (.dsr true)) := by
  refine ⟨fun s e h => ?_, fun _ => rfl⟩
  cases e with
  | sample l b => rfl
  | wait d => rfl
  | write d =>
    obtain ⟨-, hright, -⟩ := digitSelectCommits s d
    exact hright.trans (if_neg fun ⟨hd, _⟩ => h (by rw [hd]))

section Latch

variable {α : Type} {latch : State → α} {e : Event} (h : LatchedBy latch e)
include h

theorem LatchedBy.replay {es : List Event} : ∀ s : State, e ∉ es → latch (es.foldl State.replay s) = latch s := by
  induction es with
  | nil => exact fun s _ => rfl
  | cons e' es ih =>
    intro s hmem
    obtain ⟨hne, hes⟩ := not_or.1 (List.mem_cons.not.1 hmem)
    exact (ih (s.replay e') hes).trans (h.keep s e' (Ne.symm hne))

theorem LatchedBy.abandon_of_not_mem {k : Nat} {s u : State} {es : List Event}
    (hevents : u.trace.drop s.trace.length = es) (hes : e ∉ es) : latch (abandon k s u) = latch s := by
  rw [abandon, hevents, h.reset]
  exact h.replay s fun hmem => hes (List.mem_of_mem_take hmem)

/-- With `e` once among the events, the latch holds what `e` committed exactly when `e` occurred before the reset. -/
theorem LatchedBy.abandon_of_mem {k : Nat} {s u : State} {lead post : List Event}
    (hevents : u.trace.drop s.trace.length = lead ++ e :: post) (hlead : e ∉ lead) (hpost : e ∉ post) :
    latch (abandon k s u) = if k < lead.length + 1 then latch s else latch ((lead.foldl State.replay s).replay e) := by
  rw [abandon, hevents, h.reset]
  split
  · next hk =>
    rw [List.take_append_of_le_length (Nat.le_of_lt_succ hk)]
    exact h.replay s fun hmem => hlead (List.mem_of_mem_take hmem)
  · next hk =>
    obtain ⟨j, rfl⟩ : ∃ j, k = lead.length + (j + 1) := ⟨k - lead.length - 1, by omega⟩
    rw [List.take_length_add_append, List.take_succ_cons, List.foldl_append, List.foldl_cons]
    exact h.replay _ fun hmem => hpost (List.mem_of_mem_take hmem)

end Latch

/-! ## Reset inside STEP and STOP -/

/-- An operation cut short with one rising edge of BCLK among its events has committed COIL and DCM as its lead left them, or
nothing (R35, R237). -/
theorem abandon_bclk_latches {k : Nat} {s u : State} {lead post : List Event}
    (hevents : u.trace.drop s.trace.length = lead ++ .write (.bclk true) :: post)
    (hlead : Event.write (.bclk true) ∉ lead) (hpost : Event.write (.bclk true) ∉ post)
    (hlow : (lead.foldl State.replay s).bclk = false) :
    (abandon k s u).coilQ = (if k < lead.length + 1 then s.coilQ else (lead.foldl State.replay s).coil) ∧
    (abandon k s u).dcmQ = (if k < lead.length + 1 then s.dcmQ else (lead.foldl State.replay s).dcm) := by
  rw [coilQ_latchedBy.abandon_of_mem hevents hlead hpost, dcmQ_latchedBy.abandon_of_mem hevents hlead hpost]
  simp [State.replay, hlow]

theorem stepLead_length_succ (pr : Params) (pat : Nibble) :
    (stepLead pr pat).length + 1 = if pr.ndc = 0 then 3 else 4 := by
  by_cases hndc : pr.ndc = 0 <;> simp [stepLead, hndc]

/-- A STEP drives DCM only where there are lines, and to zero (R142, R151). -/
theorem dcm_of_mem_stepLead {pr : Params} {pat : Nibble} {v : Nat} (h : Event.write (.dcm v) ∈ stepLead pr pat) :
    pr.ndc ≠ 0 ∧ v < 2 ^ pr.ndc := by
  by_cases hndc : pr.ndc = 0
  · simp [stepLead, hndc] at h
  · obtain rfl : v = 0 := by simpa [stepLead, hndc] using h
    exact ⟨hndc, Nat.two_pow_pos _⟩

/-- Settles O14: the lead of the operation is what precedes the rising edge of BCLK; no event of it selects a digit. -/
theorem resetInsidePhaseSequencerOperation : Obligations.ResetInsidePhaseSequencerOperation := by
  intro s k hv hr hrst hk hlow
  refine ⟨?_, fun hi => ?_⟩
  · rintro rev pat _ hi hd hpat rfl
    obtain ⟨u, hexec, hstep⟩ := step_eq_abandon hv hr hrst hk hi rfl
    have hevents := exec_step_events hexec
    rw [stepPattern_eq, State.accept_phaseCtr, State.accept_params, ← hpat] at hevents
    obtain ⟨hb, hcoil, hdcm⟩ := replay_stepLead (s := s.accept) pat hd
    obtain ⟨hcoilQ, hdcmQ⟩ :=
      abandon_bclk_latches (k := k) hevents (by simp [stepLead]) (by simp) (hb.trans hlow)
    rw [State.accept_params] at hcoil hdcm
    rw [stepLead_length_succ, hcoil] at hcoilQ
    rw [stepLead_length_succ, hdcm] at hdcmQ
    refine ⟨_, hstep, abandon_heldInReset k _ u, hcoilQ, hdcmQ,
      digLQ_latchedBy.abandon_of_not_mem hevents (by simp [stepLead]),
      digRQ_latchedBy.abandon_of_not_mem hevents (by simp [stepLead]), ?_⟩
    rw [abandon_trace hevents fun v hmem => dcm_of_mem_stepLead (pat := pat) (by simpa using hmem)]
    simp [stepLead]
  · obtain ⟨u, hexec, hstep⟩ := step_eq_abandon hv hr hrst hk hi rfl
    have hevents := exec_stop_events hexec
    obtain ⟨hcoilQ, hdcmQ⟩ := abandon_bclk_latches (k := k) hevents (by simp [stopLead]) (by simp) hlow
    exact ⟨_, hstep, abandon_heldInReset k _ u, hcoilQ, hdcmQ,
      digLQ_latchedBy.abandon_of_not_mem hevents (by simp [stopLead]),
      digRQ_latchedBy.abandon_of_not_mem hevents (by simp [stopLead]),
      abandon_trace hevents (by simp)⟩

/-! ## Reset inside the other operations -/

/-- The transfer makes no difference to an operation, which reads none of the handshake and writes its own response (R32). -/
theorem exec_accept {i : Instr} {s u : State} (h : exec i s = .next u) :
    exec i s.accept = .next { u with cmdValid := false } := by
  cases i with
  | level l => cases h; rfl
  | poll l =>
    by_cases hl : l = .photo
    · subst hl
      obtain ⟨hlt, rfl⟩ := pollThreshold_inv 1#8 s u h
      exact pollThreshold_next 1#8 s.accept hlt
    · obtain rfl := Host.Outcome.next.inj ((execPoll_of_ne_photo hl s).symm.trans h)
      exact execPoll_of_ne_photo hl s.accept
  | pollt thr =>
    obtain ⟨hlt, rfl⟩ := pollThreshold_inv thr s u h
    exact pollThreshold_next thr s.accept hlt
  | step rev => cases h; rfl
  | stop => cases h; rfl
  | refresh lp rp ld rd =>
    obtain rfl : _ = u := Host.Outcome.next.inj h
    rfl
  | digit d =>
    revert h
    simp only [exec, execDigit, State.accept_params]
    cases digitEntry s.params d with
    | some v => rintro ⟨⟩; rfl
    | none => rintro ⟨⟩; rfl

/-- Settles O15: REFRESH has one rising edge of each select line; the others write nothing, so their replay is their trace. -/
theorem resetInsideOtherOperations : Obligations.ResetInsideOtherOperations := by
  intro s k hv hr hrst hk
  refine ⟨?_, fun i hkind hi hdom => ?_⟩
  · rintro lp rp ld rd vl vr hi hleft hright hvl hvr
    obtain ⟨u, hexec, hstep⟩ := step_eq_abandon hv hr hrst hk hi rfl
    have hevents := exec_refresh_events hexec
    rw [State.accept_params, ← hvl, ← hvr] at hevents
    have hdigL := digLQ_latchedBy.abandon_of_mem (k := k) (lead := [.write (.seg vl)]) hevents (by simp) (by simp)
    have hdigR := digRQ_latchedBy.abandon_of_mem (k := k) hevents (by simp [refreshRightLead]) (by simp)
    refine ⟨_, hstep, abandon_heldInReset k _ u, hdigL.trans ?_, hdigR.trans ?_,
      coilQ_latchedBy.abandon_of_not_mem hevents (by simp [refreshRightLead]),
      dcmQ_latchedBy.abandon_of_not_mem hevents (by simp [refreshRightLead]),
      abandon_trace hevents (by simp)⟩
    · simp [State.replay, hleft]
    · simp [State.replay, refreshRightLead, hright]
  · obtain ⟨u, hexec⟩ := (exec_completes_iff_inDomain i s).2 hdom
    have hstep := step_cut_short s _ i k ((takesCommand_iff s).2 ⟨hv, hr, hrst⟩) hk hi (exec_accept hexec)
    have hnone : ∀ d, Event.write d ∉ u.trace.drop s.trace.length := exec_input_writes_nothing i s u hkind hexec
    exact ⟨_, u, hstep, hexec, abandon_heldInReset k _ _, coilQ_latchedBy.abandon_of_not_mem rfl (hnone _),
      dcmQ_latchedBy.abandon_of_not_mem rfl (hnone _), digLQ_latchedBy.abandon_of_not_mem rfl (hnone _),
      digRQ_latchedBy.abandon_of_not_mem rfl (hnone _), abandon_trace rfl fun v hmem => absurd hmem (hnone _)⟩

end Sys2Proof.Machine

-- The reset line between operations, and the values reset gives (spec/70_reset_and_hazards.md)
namespace Sys2Proof.Machine

/-! ## The reset line between operations (R230 to R237) -/

/-- Where no command is taken, the step waits for one (R238). -/
theorem step_eq_waitForCommand {s : State} (hwait : s.cmdValid = false ∨ s.cmdReady = false ∨ s.rst = true) :
    step s = waitForCommand s :=
  if_neg (by simp [takesCommand_false s hwait])

/-- The line may rise again while it is high: the move is the same. -/
theorem step_rstRise {s : State} {rest : List Input} (hwait : s.cmdValid = false ∨ s.cmdReady = false ∨ s.rst = true)
    (hi : s.inputs = .rst true :: rest) :
    step s = .next ({ s with inputs := rest, rspValid := false } : State).rstRise := by
  rw [step_eq_takeInput hwait hi, takeInput, State.driveRst, if_pos rfl]

/-- Only a line that is high can fall; driven low when it is low, it changes nothing. -/
theorem step_rstFall {s : State} {rest : List Input} (hrst : s.rst = true) (hi : s.inputs = .rst false :: rest) :
    step s = .next ({ s with inputs := rest, rspValid := false } : State).rstFall := by
  rw [step_eq_takeInput (.inr (.inr hrst)) hi, takeInput, State.driveRst, if_neg Bool.false_ne_true, if_pos hrst]

/-- Settles O12: the rise writes the block's registers and ports, and none of the latches (R237). -/
theorem resetLineRises : Obligations.ResetLineRises := by
  intro s rest hwait hi
  exact ⟨_, step_rstRise hwait hi, State.rstRise_atReset _, rfl, rfl, rfl, rfl, rfl, rfl, rfl⟩

/-- Settles O13: reset keeps the step from taking a command, so it waits; the move to come may be the fall. -/
theorem resetLineFalls : Obligations.ResetLineFalls := by
  intro s rest hrst
  refine ⟨step_eq_waitForCommand (.inr (.inr hrst)), fun hi => ?_⟩
  exact ⟨_, step_rstFall hrst hi, State.rstFall_atReset _, rfl, rfl, rfl, rfl, rfl, rfl, rfl⟩

/-! ## The values after reset (R230 to R236) -/

theorem State.reset_atReset : AtReset State.reset := by constructor <;> rfl

/-- Settles O19: the registers and ports, then the handshake of R230. -/
theorem resetRegisterValues : Obligations.ResetRegisterValues :=
  ⟨State.reset_atReset, rfl, rfl, rfl⟩

end Sys2Proof.Machine
